-- ==== Sys2Proof/Word.lean ====
section
/-! DEFINITION. The bit vectors of the block, by width. -/

namespace Sys2Proof

/-- One byte: `LED`, `MMASK`, `COUNT`, write data, read responses (R102, R103, R104, R300). -/
abbrev Byte := BitVec 8

/-- A 16-bit register or accumulator: `TSAMPLE`, `TBASE`, `ACC`, `CACC` (R105, R106, R142). -/
abbrev Half := BitVec 16

/-- A host transaction `T[12:0]` (R300). -/
abbrev Txn := BitVec 13

/-- One raw ADC reading. `ADC_BITS` is at most 10 (R11), so ten bits hold every result (R133). -/
abbrev Reading := BitVec 10

/-- The debounce counter `TDEB[3:0]` (R108). -/
abbrev Nibble := BitVec 4

end Sys2Proof
end

