-- ==== Sys2Proof/Config.lean ====
section
/-! DEFINITION. The implementation parameters (R11) and the one free value of the model. -/

namespace Sys2Proof

/-- The three interrupt sources (R612; C1: three, not two). -/
inductive Source where
  | motion | tick | scan
  deriving DecidableEq, Repr

/-- What a committed touch change does to the LEDs (R497, C2). -/
inductive TouchAction where
  | assignByState | toggle
  deriving DecidableEq, Repr

/-- When a service clears its pending flag (R614). -/
inductive FlagClearAt where
  | entry | exit
  deriving DecidableEq, Repr

/-- Arbitration among pending jobs (R624): `any`, or a total order of the sources, highest first. -/
inductive Priority where
  | any
  | order (first second third : Source)
  deriving DecidableEq, Repr

/-- The parameters of R11, fixed for a machine (log entry 1). -/
structure Config where
  /-- `TIMEOUT_SEC`: countdown maximum, in ticks. -/
  timeoutSec : Nat
  /-- `SCAN_SAMPLES`: single shots per filtered sample. -/
  scanSamples : Nat
  /-- `SAMPLE_SHIFT`: log2 of `SCAN_SAMPLES`. -/
  sampleShift : Nat
  /-- `CAL_SAMPLES`: filtered samples averaged at start-up. -/
  calSamples : Nat
  /-- `THRESHOLD`: touch margin above baseline. -/
  threshold : Nat
  /-- `TOUCH_DEBOUNCE`: consecutive disagreeing ticks to commit. -/
  touchDebounce : Nat
  /-- `BASELINE_SHIFT`: right shift of the baseline step. -/
  baselineShift : Nat
  /-- `ADC_BITS`: ADC result width. -/
  adcBits : Nat
  /-- `MOTION_MASK_INIT`: `MMASK` after reset. -/
  motionMaskInit : Byte
  touchAction : TouchAction
  flagClearAt : FlagClearAt
  priority : Priority
  deriving DecidableEq, Repr

/-- The defaults of R11. -/
def Config.default : Config where
  timeoutSec := 5
  scanSamples := 64
  sampleShift := 6
  calSamples := 16
  threshold := 20
  touchDebounce := 5
  baselineShift := 7
  adcBits := 10
  motionMaskInit := 0x00#8
  touchAction := .assignByState
  flagClearAt := .entry
  priority := .any

/-- Which of several pending jobs the sequencer takes when `PRIORITY` is `ANY`: a FREE VALUE, one number for
each free choice made so far (R624, U12, log entry 4). It has no body, so every choice is allowed. -/
opaque Config.freePick : Nat → Nat

end Sys2Proof
end

