-- ==== Sys2Proof/Syntax.lean ====
section
/-! DEFINITION. The host transactions (R303) and the pseudo-instructions (R311). -/

namespace Sys2Proof

/-- One constructor per row of the opcode map (R303). Format `WR` carries its operand `d`; format `RD` does
not decode `D` (R301), so it carries nothing. -/
inductive Instr where
  /-- `LED.ASSIGN d` (R410) -/
  | ledAssign (d : Byte)
  /-- `LED.SET d` (R411) -/
  | ledSet (d : Byte)
  /-- `LED.CLR d` (R412) -/
  | ledClr (d : Byte)
  /-- `LED.TGL d` (R413) -/
  | ledTgl (d : Byte)
  /-- `MMASK.EN d` (R420) -/
  | mmaskEn (d : Byte)
  /-- `MMASK.DIS d` (R421) -/
  | mmaskDis (d : Byte)
  /-- `RD.LED` (R414) -/
  | rdLed
  /-- `RD.MMASK` (R422) -/
  | rdMmask
  /-- `RD.COUNT` (R470) -/
  | rdCount
  /-- `RD.TSTAT` (R520) -/
  | rdTstat
  /-- `RD.TSAMPLEL` (R521) -/
  | rdTsamplel
  /-- `RD.TSAMPLEH` (R522) -/
  | rdTsampleh
  /-- `RD.TBASEL` (R523) -/
  | rdTbasel
  /-- `RD.TBASEH` (R524) -/
  | rdTbaseh
  /-- `RD.FLAGS` (R540) -/
  | rdFlags
  deriving DecidableEq, Repr

/-- The pseudo-instructions of R311: other names for one transaction each. -/
inductive Pseudo where
  | transfer (d : Byte) | assign (d : Byte) | setb (d : Byte) | clrb (d : Byte) | tglb (d : Byte)
  | allOn | allOff | relatch
  | enmot (d : Byte) | dismot (d : Byte)
  deriving DecidableEq, Repr

end Sys2Proof
end

