-- ==== Sys2Proof/WellFormed.lean ====
section
/-! DEFINITION. Well-formed terms: the legal configurations of R11, and the (unconditional) well-formedness of
an instruction. -/

namespace Sys2Proof

/-- Every instruction of the model's type is well formed: the one operand is an 8-bit value used as it stands
(R301, R302), with "No validation beyond accepting any 8-bit mask" (R103, R420). The checks that the spec does make
are on the word (reserved encodings, `decode`) and on the parameters (`Config.legal`). -/
def Instr.wellFormed : Instr → Bool
  | .ledAssign _ => true
  | .ledSet _ => true
  | .ledClr _ => true
  | .ledTgl _ => true
  | .mmaskEn _ => true
  | .mmaskDis _ => true
  | .rdLed => true
  | .rdMmask => true
  | .rdCount => true
  | .rdTstat => true
  | .rdTsamplel => true
  | .rdTsampleh => true
  | .rdTbasel => true
  | .rdTbaseh => true
  | .rdFlags => true

/-- A total order of the three sources names each once (R11, R624). -/
def Priority.legal : Priority → Bool
  | .any => true
  | .order a b c => decide (a ≠ b) && decide (a ≠ c) && decide (b ≠ c)

/-- The legal ranges of R11. `MOTION_MASK_INIT`, `TOUCH_ACTION` and `FLAG_CLEAR_AT` have only legal values. A
`SCAN_SAMPLES` in 1..64 whose logarithm is `SAMPLE_SHIFT` is `2 ^ SAMPLE_SHIFT` with `SAMPLE_SHIFT` at most 6. -/
def Config.legal (c : Config) : Bool :=
  (decide (1 ≤ c.timeoutSec) && decide (c.timeoutSec ≤ 255)) &&
  (decide (c.sampleShift ≤ 6) && decide (c.scanSamples = 2 ^ c.sampleShift)) &&
  (decide (1 ≤ c.calSamples) && decide (c.calSamples ≤ 64)) &&
  decide (c.threshold ≤ 65535) &&
  (decide (1 ≤ c.touchDebounce) && decide (c.touchDebounce ≤ 16)) &&
  decide (c.baselineShift ≤ 15) &&
  (decide (1 ≤ c.adcBits) && decide (c.adcBits ≤ 10)) &&
  c.priority.legal

end Sys2Proof
end

