-- ==== Sys2Proof/Decode.lean ====
section
/-! DEFINITION. The 13-bit transaction word (R300), its decoder (R303, R304), its encoder, and the expansion of
the pseudo-instructions (R311). -/

namespace Sys2Proof

/-- Field `W`: true for a write (R300). -/
def fieldW (t : Txn) : Bool := t.getLsbD 12

/-- Field `A`: the host register address (R300). -/
def fieldA (t : Txn) : BitVec 4 := t.extractLsb' 8 4

/-- Field `D`: the write data (R300). -/
def fieldD (t : Txn) : Byte := t.extractLsb' 0 8

/-- What the decoder answers: an instruction, or the name of a reserved access with its `W` and `A` (R304). -/
inductive Decoded where
  | instr (i : Instr)
  | reserved (write : Bool) (addr : BitVec 4)
  deriving DecidableEq, Repr

/-- The rows of R303 with `W` = 1. -/
def decodeWrite (a : BitVec 4) (d : Byte) : Decoded :=
  match a with
  | 0x0#4 => .instr (.ledAssign d)
  | 0x1#4 => .instr (.ledSet d)
  | 0x2#4 => .instr (.ledClr d)
  | 0x3#4 => .instr (.ledTgl d)
  | 0x4#4 => .instr (.mmaskEn d)
  | 0x5#4 => .instr (.mmaskDis d)
  | a => .reserved true a

/-- The rows of R303 with `W` = 0; `D` is not decoded (R301). -/
def decodeRead (a : BitVec 4) : Decoded :=
  match a with
  | 0x0#4 => .instr .rdLed
  | 0x4#4 => .instr .rdMmask
  | 0x6#4 => .instr .rdCount
  | 0x7#4 => .instr .rdTstat
  | 0x8#4 => .instr .rdTsamplel
  | 0x9#4 => .instr .rdTsampleh
  | 0xA#4 => .instr .rdTbasel
  | 0xB#4 => .instr .rdTbaseh
  | 0xC#4 => .instr .rdFlags
  | a => .reserved false a

/-- The decoder: total on 13-bit words, every word one row or reserved (R303, R304, R305). -/
def decode (t : Txn) : Decoded :=
  if fieldW t then decodeWrite (fieldA t) (fieldD t) else decodeRead (fieldA t)

/-- A word from its three fields: `{W, A, D}` (R300). -/
def word (w : Bool) (a : BitVec 4) (d : Byte) : Txn := (BitVec.ofBool w ++ a) ++ d

/-- The canonical word of an instruction: `0x1000 | A << 8 | D` for a write, `A << 8` for a read (R300, R303). -/
def encode : Instr → Txn
  | .ledAssign d => word true 0x0 d
  | .ledSet d => word true 0x1 d
  | .ledClr d => word true 0x2 d
  | .ledTgl d => word true 0x3 d
  | .mmaskEn d => word true 0x4 d
  | .mmaskDis d => word true 0x5 d
  | .rdLed => word false 0x0 0
  | .rdMmask => word false 0x4 0
  | .rdCount => word false 0x6 0
  | .rdTstat => word false 0x7 0
  | .rdTsamplel => word false 0x8 0
  | .rdTsampleh => word false 0x9 0
  | .rdTbasel => word false 0xA 0
  | .rdTbaseh => word false 0xB 0
  | .rdFlags => word false 0xC 0

/-- The reserved `(W, A)` pairs of R304: writes to 0x6..0xF, reads of 0x1, 0x2, 0x3, 0x5, 0xD, 0xE, 0xF. -/
def reservedPair (w : Bool) (a : BitVec 4) : Bool :=
  if w then decide (0x6#4 ≤ a)
  else a == 0x1#4 || a == 0x2#4 || a == 0x3#4 || a == 0x5#4 || decide (0xD#4 ≤ a)

/-- The expansions of R311. -/
def Pseudo.expand : Pseudo → Instr
  | .transfer d => .ledAssign d
  | .assign d => .ledAssign d
  | .setb d => .ledSet d
  | .clrb d => .ledClr d
  | .tglb d => .ledTgl d
  | .allOn => .ledAssign 0xFF
  | .allOff => .ledAssign 0x00
  | .relatch => .ledSet 0x00
  | .enmot d => .mmaskEn d
  | .dismot d => .mmaskDis d

/-- The instruction the decoder reads from a word given as a number, as spec/opcode_table.json numbers its bits.
A transaction is one 13-bit word delivered whole (R300), so there is no byte order to apply (R207); a number with a
bit above bit 12 is no transaction (log entry 19). -/
def decodeTableWord (_nbits w : Nat) : Option Instr :=
  if w < 2 ^ 13 then
    match decode (BitVec.ofNat 13 w) with
    | .instr i => some i
    | .reserved _ _ => none
  else none

end Sys2Proof
end

