-- ==== Sys2Proof/Machine/Operands.lean ====
section
/-! DEFINITION. The operand forms: an 8-bit mask applied to a mask register (R302, R410 to R413, R420, R421), and
the byte lanes of a 16-bit register (R205). -/

namespace Sys2Proof.Machine

/-- OR the given bits in: `set_bits`, `enable_for_motion` (R411, R420). -/
def setBits (v d : Byte) : Byte := v ||| d

/-- AND-NOT the given bits out, `v & ~d` with `~d = 0xFF ^ d`: `clear_bits`, `disable_for_motion` (R412, R421). -/
def clearBits (v d : Byte) : Byte := v &&& (0xFF#8 ^^^ d)

/-- Exclusive-or the given bits: `toggle_bits` (R413). -/
def toggleBits (v d : Byte) : Byte := v ^^^ d

/-- Bits 7:0 of a 16-bit register (R205, R521, R523). -/
def lowByte (h : Half) : Byte := h.extractLsb' 0 8

/-- Bits 15:8 of a 16-bit register (R205, R522, R524). -/
def highByte (h : Half) : Byte := h.extractLsb' 8 8

end Sys2Proof.Machine
end

