-- ==== Sys2Proof/Machine/State.lean ====
section
/-! DEFINITION. The state of the block: every register of spec/10_state.md, the sequencer's job, the host's offered
transaction, the observation of the run, and (the model's own) the parameters and the coming moves of the
environment and the host. -/

namespace Sys2Proof.Machine

/-- `PHASE` (R140, R710). -/
inductive Phase where
  | reset | cal | run
  deriving DecidableEq, Repr

/-- `ADC_MUX` (R133): the disconnect/ground channel or the sense pad. -/
inductive AdcMux where
  | gnd | pad
  deriving DecidableEq, Repr

/-- `PAD_MODE` (R134). -/
inductive PadMode where
  | driveHigh | float
  deriving DecidableEq, Repr

/-- The next statement of `TRANSFER(v)` (R403). The argument `v` lives until T3 has used it. -/
inductive TransferPos where
  | t1 (v : Byte) | t2 (v : Byte) | t3 (v : Byte) | t4 | t5 | t6 | t7
  deriving DecidableEq, Repr

/-- The next statement of `SINGLE_SHOT()` (R486). -/
inductive ShotPos where
  | s1 | s2 | s3 | s4 | s5 | s6 | s7 | s8
  deriving DecidableEq, Repr

/-- The next statement of `FILTERED_SAMPLE()` (R490). `f2` starts the loop (`K <- 0`), `f2Test` is its test, `shot` is
inside the single shot that F3 calls, `f3 r` adds the reading `r` it returned. -/
inductive FilterPos where
  | f1 | f2 | f2Test | shot (p : ShotPos) | f3 (r : Reading) | f4
  deriving DecidableEq, Repr

/-- The next statement of a host transaction's job: its own rule's pseudocode, or inside the `TRANSFER` it calls. -/
inductive HostPos where
  | body | transfer (p : TransferPos)
  deriving DecidableEq, Repr

/-- The next statement of `MOTION_SVC` (R443). -/
inductive MotionPos where
  | m0 | m1 | transfer (p : TransferPos) | m2 | m3 | m4
  deriving DecidableEq, Repr

/-- The next statement of `TICK_SVC` (R463). -/
inductive TickPos where
  | k0 | k1 | k2 | k3 | k4 | k5 | k6 | transfer (p : TransferPos) | k7 | k8
  deriving DecidableEq, Repr

/-- The next statement of `SCAN_SVC` (R491), with those of `DEBOUNCE` (R496) and `ADAPT` (R500), which it runs
inline (R23). `filter` is inside C1, `transfer` inside B5. -/
inductive ScanPos where
  | c0 | filter (p : FilterPos) | c2
  | b1 | b2 | b3 | b4 | b5 | transfer (p : TransferPos) | b7 | b9
  | a1 | a2 | a3 | a4 | a5
  | c5 | c6
  deriving DecidableEq, Repr

/-- The next statement of `CAL_JOB` (R511). `l2` starts the loop (`J <- 0`), `l2Test` is its test, `filter` is inside
the filtered sample that L3 calls. -/
inductive CalPos where
  | l1 | l2 | l2Test | filter (p : FilterPos) | l4 | l5 | l6 | l7
  deriving DecidableEq, Repr

/-- `JOB` together with `STEP` (R140, R141): which job is in progress and its next statement. -/
inductive Job where
  | host (i : Instr) (p : HostPos)
  | motion (p : MotionPos)
  | tick (p : TickPos)
  | scan (p : ScanPos)
  | cal (p : CalPos)
  deriving DecidableEq, Repr

/-- `SEQ` (R140). `JOB` and `STEP` are present exactly while it is `BUSY`. -/
inductive Seq where
  | idle | sleep | busy (j : Job)
  deriving DecidableEq, Repr

/-- A candidate of the dispatch step (R620): a pending service, or the offered host transaction. -/
inductive Pick where
  | service (src : Source) | host
  deriving DecidableEq, Repr

/-- One line of a script (R312): an environment step, a host's offer, or the sequencer's choice of a job. -/
inductive Event where
  /-- `PIN(l)` (R610): the presence sensor's pin takes level `l`. -/
  | pin (l : Bool)
  /-- `TICK` (R460) -/
  | tick
  /-- `SCAN` (R480) -/
  | scan
  /-- `SPI_DONE` (R406) -/
  | spiDone
  /-- `ADC_DONE(r)` (R487): the draw is the low `ADC_BITS` bits of `r` (log entry 14). -/
  | adcDone (r : Reading)
  /-- The host offers a transaction (R655). -/
  | offer (t : Txn)
  /-- `@run job` (R312): the dispatch step that chooses `p` (R620, R624). -/
  | run (p : Pick)
  deriving DecidableEq, Repr

/-- When the first coming event happens (log entry 2): at the next moment the sequencer is at rest (held at an `await`,
or with no job and no transaction to take), or after `n` more sequencer moves, wherever those lead. -/
inductive Due where
  | atRest
  | after (n : Nat)
  deriving DecidableEq, Repr

/-- A coming event and when it happens. -/
structure Input where
  due : Due
  ev : Event
  deriving DecidableEq, Repr

/-- One entry of the observation of a run (R24): a latch event with `Q` after it (R405), a read's response byte, or
a write's completion (R631, R655). -/
inductive Obs where
  | latch (v : Byte)
  | response (b : Byte)
  | done
  deriving DecidableEq, Repr

/-- No fault exists: "The block raises no synchronous exception" (R600), and a busy-wait that is never satisfied is
a run the model keeps (R407, R488, log entry 20). -/
inductive Fault where
  deriving DecidableEq, Repr

/-- The model's verdicts (R22, R601). -/
inductive Refusal where
  /-- An instruction that has no meaning in the model, by its mnemonic. No arm of `exec` raises it: every instruction
  has its meaning. Safe. -/
  | notModelled (mnemonic : String)
  /-- `RESERVED_ACCESS`: raised by `step` when the sequencer takes an offered transaction whose `(W, A)` pair is
  reserved (R203, R304). Safe. -/
  | reservedAccess
  /-- `ILLEGAL_CONFIG`: raised by `step` and by every instruction when a parameter is outside R11's range (R601).
  Safe. -/
  | illegalConfig
  deriving DecidableEq, Repr

/-- The state of the block. -/
structure State where
  /-- The parameters of R11 (log entry 1). -/
  cfg : Config
  /-- `PHASE` (R140, R710). -/
  phase : Phase
  /-- `SEQ`, `JOB`, `STEP` (R140, R141). -/
  seq : Seq
  /-- `LED[7:0]` (R102). -/
  led : Byte
  /-- `MMASK[7:0]` (R103). -/
  mmask : Byte
  /-- `COUNT[7:0]` (R104). -/
  count : Byte
  /-- `TSAMPLE[15:0]` (R105). -/
  tsample : Half
  /-- `TBASE[15:0]` (R106). -/
  tbase : Half
  /-- `TSTATE` (R107): true = touched. -/
  tstate : Bool
  /-- `TDEB[3:0]` (R108). -/
  tdeb : Nibble
  /-- `MOTION_PEND` (R120). -/
  motionPend : Bool
  /-- `TICK_PEND` (R120). -/
  tickPend : Bool
  /-- `SCAN_PEND` (R120). -/
  scanPend : Bool
  /-- `SPI_EN` (R130). -/
  spiEn : Bool
  /-- `SPI_BUSY` (R130). -/
  spiBusy : Bool
  /-- `SPI_TC` (R130). -/
  spiTc : Bool
  /-- `SPI_DATA[7:0]` (R130). -/
  spiData : Byte
  /-- `SR[7:0]`, the serial-in stage (R131). -/
  sr : Byte
  /-- `Q[7:0]`, the latched outputs (R131, R132). -/
  q : Byte
  /-- `LATCH` (R131). -/
  latch : Bool
  /-- `ADC_MUX` (R133). -/
  adcMux : AdcMux
  /-- `ADC_BUSY` (R133). -/
  adcBusy : Bool
  /-- `ADC_RESRDY` (R133). -/
  adcResRdy : Bool
  /-- `ADC_RES` (R133). -/
  adcRes : Reading
  /-- `PAD_MODE` (R134). -/
  padMode : PadMode
  /-- `MOTION_N` (R135): false = active. -/
  motionN : Bool
  /-- `ACC` (R142). -/
  acc : Half
  /-- `K` (R142). -/
  k : Nat
  /-- `CACC` (R142). -/
  cacc : Half
  /-- `J` (R142). -/
  j : Nat
  /-- `TENT` (R142). -/
  tent : Bool
  /-- The host transaction offered and not yet taken (R620, R655, R715). -/
  offered : Option Txn
  /-- The observation so far, oldest first (R24, log entry 17). -/
  obs : List Obs
  /-- The coming moves of the environment and the host, and the choices prescribed to the sequencer, next first
  (log entry 2). -/
  inputs : List Input
  /-- How many free choices the sequencer has made (log entry 4). -/
  draws : Nat
  deriving DecidableEq, Repr

/-- The state at power-up (R700), for parameters `c` and the values that the spec draws there: the shift register's
stage and outputs (R131) and the sensor's level (R135). -/
def State.powerUp (c : Config) (srDraw qDraw : Byte) (pinDraw : Bool) : State where
  cfg := c
  phase := .reset
  seq := .idle
  led := 0x00#8
  mmask := c.motionMaskInit
  count := 0#8
  tsample := 0#16
  tbase := 0#16
  tstate := false
  tdeb := 0#4
  motionPend := false
  tickPend := false
  scanPend := false
  spiEn := false
  spiBusy := false
  spiTc := false
  spiData := 0#8
  sr := srDraw
  q := qDraw
  latch := false
  adcMux := .gnd
  adcBusy := false
  adcResRdy := false
  adcRes := 0#10
  padMode := .float
  motionN := pinDraw
  acc := 0#16
  k := 0
  cacc := 0#16
  j := 0
  tent := false
  offered := none
  obs := []
  inputs := []
  draws := 0

/-- The machine right after reset (R700), with the defaults of R11 and named draws (log entries 6 to 9). -/
def State.reset : State := State.powerUp Config.default 0x00#8 0x00#8 true

end Sys2Proof.Machine
end

