-- ==== Sys2Proof/Machine/Flags.lean ====
section
/-! DEFINITION. The pending flags (R120, R121, R614) and the layouts of the two status bytes (R520, R540). -/

namespace Sys2Proof.Machine

/-- A source's pending flag (R120). -/
def State.pending (s : State) : Source → Bool
  | .motion => s.motionPend
  | .tick => s.tickPend
  | .scan => s.scanPend

/-- A source's event sets its flag; a flag already 1 stays 1 (R121). -/
def State.setPending (src : Source) (s : State) : State :=
  match src with
  | .motion => { s with motionPend := true }
  | .tick => { s with tickPend := true }
  | .scan => { s with scanPend := true }

/-- A service clears its source's flag (R614). -/
def State.clearPending (src : Source) (s : State) : State :=
  match src with
  | .motion => { s with motionPend := false }
  | .tick => { s with tickPend := false }
  | .scan => { s with scanPend := false }

/-- Statements M0, K0, C0 (R614). -/
def State.clearAtEntry (src : Source) (s : State) : State :=
  match s.cfg.flagClearAt with
  | .entry => s.clearPending src
  | .exit => s

/-- Statements M3, K7, C5 (R614). -/
def State.clearAtExit (src : Source) (s : State) : State :=
  match s.cfg.flagClearAt with
  | .entry => s
  | .exit => s.clearPending src

/-- `{0b0000, RUN, SCAN_PEND, TICK_PEND, MOTION_PEND}` (R540). -/
def State.flagsByte (s : State) : Byte :=
  0b0000#4 ++ (BitVec.ofBool (decide (s.phase = .run)) ++ (BitVec.ofBool s.scanPend ++
    (BitVec.ofBool s.tickPend ++ BitVec.ofBool s.motionPend)))

/-- `{TDEB[3:0], 0b000, TSTATE}` (R520). -/
def State.tstatByte (s : State) : Byte := s.tdeb ++ (0b000#3 ++ BitVec.ofBool s.tstate)

end Sys2Proof.Machine
end

