-- ==== Sys2Proof/Machine/Ops.lean ====
section
/-! DEFINITION. The shared operations: starting and completing a job (R620 to R622, R631), the host's response, the
serial link (R404, R406), and the inline procedures `TRANSFER` (R403), `SINGLE_SHOT` (R486) and `FILTERED_SAMPLE` (R490).
The block has no exceptions (R600); starting a service is its only interrupt entry, and it saves nothing (R621). -/

namespace Sys2Proof.Machine

/-! ## Jobs -/

/-- `SEQ` = `BUSY` with this `JOB` and `STEP` (R140). -/
def State.goto (j : Job) (s : State) : State := { s with seq := .busy j }

/-- A job is in progress (R140). -/
def State.isBusy (s : State) : Bool :=
  match s.seq with
  | .busy _ => true
  | .idle => false
  | .sleep => false

/-- The first statement of a source's service (R622). -/
def serviceEntry : Source → Job
  | .motion => .motion .m0
  | .tick => .tick .k0
  | .scan => .scan .c0

/-- Interrupt entry (R620, R621, R622): `SEQ`, `JOB` and `STEP` change, and nothing is saved or masked. -/
def State.startService (src : Source) (s : State) : State := s.goto (serviceEntry src)

/-- The offered transaction becomes the job in progress (R620). -/
def State.startHost (i : Instr) (s : State) : State := { s with offered := none, seq := .busy (.host i .body) }

/-- Completion of a job, which is also the return from a service (R631): `SEQ <- IDLE`; `JOB`, `STEP` and the scratch
values lose their values (log entry 10); nothing is restored. -/
def State.endJob (s : State) : State :=
  { s with seq := .idle, acc := 0#16, k := 0, cacc := 0#16, j := 0, tent := false }

/-- Append to the observation of the run (R24). -/
def State.observe (o : Obs) (s : State) : State := { s with obs := s.obs ++ [o] }

/-! ## The serial link -/

/-- The bits of a byte in the order sent: bit 7 first (R206, R404). -/
def serialBits (v : Byte) : List Bool :=
  [v.getLsbD 7, v.getLsbD 6, v.getLsbD 5, v.getLsbD 4, v.getLsbD 3, v.getLsbD 2, v.getLsbD 1, v.getLsbD 0]

/-- One serial clock: the stage moves up by one bit and takes the new bit at the bottom (R404). -/
def shiftIn (stage : Byte) (b : Bool) : Byte := (stage <<< 1) ||| (BitVec.ofBool b).setWidth 8

/-- The stage after the eight bits of `v` (R404): it is `v`, whatever it held before. -/
def shiftByte (stage v : Byte) : Byte := (serialBits v).foldl shiftIn stage

/-- `TRANSFER(v)`, one statement (R403): the position after it (`none`: the procedure has returned) and the state.
T4 stays put while `SPI_TC` is 0 (R20, R407). T6 is one indivisible step and one latch event (R405). -/
def transferStep (p : TransferPos) (s : State) : Option TransferPos × State :=
  match p with
  | .t1 v => (some (.t2 v), { s with led := v })
  | .t2 v => (some (.t3 v), { s with spiEn := true })
  | .t3 v => (some .t4, { s with spiData := v, spiBusy := true })
  | .t4 => (if s.spiTc then some .t5 else some .t4, s)
  | .t5 => (some .t6, { s with spiTc := false })
  | .t6 => (some .t7, ({ s with latch := false, q := s.sr }).observe (.latch s.sr))
  | .t7 => (none, { s with spiEn := false })

/-! ## The analog front end -/

/-- Inside a single shot, or returned with its reading. -/
inductive ShotResult where
  | at (p : ShotPos)
  | returned (r : Reading)
  deriving DecidableEq, Repr

/-- `SINGLE_SHOT()`, one statement (R486). S3, the charge interval, has no effect. S7 stays put while `ADC_RESRDY` is
0 (R20, R488). Reading the result at S8 clears the flag (R481). -/
def shotStep (p : ShotPos) (s : State) : ShotResult × State :=
  match p with
  | .s1 => (.at .s2, { s with adcMux := .gnd })
  | .s2 => (.at .s3, { s with padMode := .driveHigh })
  | .s3 => (.at .s4, s)
  | .s4 => (.at .s5, { s with padMode := .float })
  | .s5 => (.at .s6, { s with adcMux := .pad })
  | .s6 => (.at .s7, { s with adcBusy := true })
  | .s7 => (if s.adcResRdy then .at .s8 else .at .s7, s)
  | .s8 => (.returned s.adcRes, { s with adcResRdy := false })

/-- `FILTERED_SAMPLE()`, one statement (R490): the position after it (`none`: returned) and the state. -/
def filterStep (p : FilterPos) (s : State) : Option FilterPos × State :=
  match p with
  | .f1 => (some .f2, { s with acc := 0#16 })
  | .f2 => (some .f2Test, { s with k := 0 })
  | .f2Test => (if s.k < s.cfg.scanSamples then some (.shot .s1) else some .f4, s)
  | .shot p =>
    match shotStep p s with
    | (.at p', s') => (some (.shot p'), s')
    | (.returned r, s') => (some (.f3 r), s')
  | .f3 r => (some .f2Test, { s with acc := s.acc + r.setWidth 16, k := s.k + 1 })
  | .f4 => (none, { s with tsample := s.acc >>> s.cfg.sampleShift })

end Sys2Proof.Machine
end

