-- ==== Sys2Proof/Machine/LedDriver.lean ====
section
/-! DEFINITION. The Shift-Register Driver's host commands (R410 to R414): the pseudocode each runs as its job. -/

namespace Sys2Proof.Machine

/-- What a host transaction's pseudocode does: `TRANSFER(v)`, `MMASK <- m`, or `response <- b`. -/
inductive Body where
  | transfer (v : Byte)
  | mask (m : Byte)
  | reply (b : Byte)
  deriving DecidableEq, Repr

/-- `TRANSFER(d)` (R410). -/
def ledAssignBody (d : Byte) (_s : State) : Body := .transfer d

/-- `TRANSFER(LED | d)`, `LED` read at the start of the job (R411). -/
def ledSetBody (d : Byte) (s : State) : Body := .transfer (setBits s.led d)

/-- `TRANSFER(LED & ~d)` (R412). -/
def ledClrBody (d : Byte) (s : State) : Body := .transfer (clearBits s.led d)

/-- `TRANSFER(LED ^ d)` (R413). -/
def ledTglBody (d : Byte) (s : State) : Body := .transfer (toggleBits s.led d)

/-- `response <- LED`: the value last sent, not `Q` (R414). -/
def rdLedBody (s : State) : Body := .reply s.led

end Sys2Proof.Machine
end

