-- ==== Sys2Proof/Machine/FlagsRead.lean ====
section
/-! DEFINITION. The pending-flag and phase read (R540). It clears no flag. -/

namespace Sys2Proof.Machine

/-- `response <- {0b0000, (PHASE == RUN), SCAN_PEND, TICK_PEND, MOTION_PEND}` (R540). -/
def rdFlagsBody (s : State) : Body := .reply s.flagsByte

end Sys2Proof.Machine
end

