-- ==== Sys2Proof/Machine/MotionSource.lean ====
section
/-! DEFINITION. The Motion Event Source: the falling-edge latch (R440 to R442, R610) and `MOTION_SVC` (R443). -/

namespace Sys2Proof.Machine

/-- `PIN(l)` (R610): a change from 1 to 0 in phase CAL or RUN sets `MOTION_PEND`. -/
def pinEvent (l : Bool) (s : State) : State :=
  let s' := { s with motionN := l }
  if s.motionN && !l && decide (s.phase ≠ .reset) then s'.setPending .motion else s'

/-- `MOTION_SVC`, one statement (R443). The transfer is unconditional (R444). -/
def motionStep (p : MotionPos) (s : State) : State :=
  match p with
  | .m0 => (s.clearAtEntry .motion).goto (.motion .m1)
  | .m1 => s.goto (.motion (.transfer (.t1 (setBits s.led s.mmask))))
  | .transfer t =>
    match transferStep t s with
    | (some t', s') => s'.goto (.motion (.transfer t'))
    | (none, s') => s'.goto (.motion .m2)
  | .m2 => { s with count := BitVec.ofNat 8 s.cfg.timeoutSec }.goto (.motion .m3)
  | .m3 => (s.clearAtExit .motion).goto (.motion .m4)
  | .m4 => s.endJob

end Sys2Proof.Machine
end

