-- ==== Sys2Proof/Machine/StripPolicy.lean ====
section
/-! DEFINITION. The Strip Policy's host commands (R420 to R422). They call no `TRANSFER` (R423). -/

namespace Sys2Proof.Machine

/-- `MMASK <- MMASK | d` (R420). -/
def mmaskEnBody (d : Byte) (s : State) : Body := .mask (setBits s.mmask d)

/-- `MMASK <- MMASK & ~d` (R421). -/
def mmaskDisBody (d : Byte) (s : State) : Body := .mask (clearBits s.mmask d)

/-- `response <- MMASK` (R422). -/
def rdMmaskBody (s : State) : Body := .reply s.mmask

end Sys2Proof.Machine
end

