-- ==== Sys2Proof/Machine/TimeoutScheduler.lean ====
section
/-! DEFINITION. The Timeout Scheduler: `TICK_SVC` (R463), `RD.COUNT` (R470) and the timeout view (R144). -/

namespace Sys2Proof.Machine

/-- `TICK_SVC`, one statement (R463). The sensor is read at K1 (R462). -/
def tickStep (p : TickPos) (s : State) : State :=
  match p with
  | .k0 => (s.clearAtEntry .tick).goto (.tick .k1)
  | .k1 => if s.motionN then s.goto (.tick .k3) else s.goto (.tick .k2)
  | .k2 => { s with count := BitVec.ofNat 8 s.cfg.timeoutSec }.goto (.tick .k7)
  | .k3 => if 0 < s.count.toNat then s.goto (.tick .k4) else s.goto (.tick .k7)
  | .k4 => { s with count := s.count - 1#8 }.goto (.tick .k5)
  | .k5 => if s.count = 0#8 then s.goto (.tick .k6) else s.goto (.tick .k7)
  | .k6 => s.goto (.tick (.transfer (.t1 (clearBits s.led s.mmask))))
  | .transfer t =>
    match transferStep t s with
    | (some t', s') => s'.goto (.tick (.transfer t'))
    | (none, s') => s'.goto (.tick .k7)
  | .k7 => (s.clearAtExit .tick).goto (.tick .k8)
  | .k8 => s.endJob

/-- `response <- COUNT` (R470). -/
def rdCountBody (s : State) : Body := .reply s.count

/-- The document's timeout states (R144). -/
inductive TimeoutView where
  | idle | held | counting
  deriving DecidableEq, Repr

/-- The view of `COUNT` and `MOTION_N` (R144); it is not stored. -/
def timeoutView (s : State) : TimeoutView :=
  if s.count = 0#8 then .idle else if s.motionN then .counting else .held

end Sys2Proof.Machine
end

