-- ==== Sys2Proof/Machine/TouchSensor.lean ====
section
/-! DEFINITION. The Capacitive Touch Sensor: classification (R492), commit action (R497), baseline step (R500),
`SCAN_SVC` (R491), `CAL_JOB` (R511) and the reads of the touch state (R520 to R524). -/

namespace Sys2Proof.Machine

/-- `CLASSIFY(S, B)` (R492). The subtraction counts only when `S > B`. -/
def classify (c : Config) (sample base : Half) : Bool :=
  decide (base.toNat < sample.toNat) && decide (c.threshold ≤ sample.toNat - base.toNat)

/-- Whether the counter reaches the threshold: `TDEB + 1 >= TOUCH_DEBOUNCE` (R496, B2), an exact sum. -/
def debounceReached (c : Config) (tdeb : Nibble) : Bool := decide (c.touchDebounce ≤ tdeb.toNat + 1)

/-- The byte that `COMMIT_ACTION()` transfers (R497). -/
def commitValue (s : State) : Byte :=
  match s.cfg.touchAction with
  | .assignByState => if s.tstate then 0xFF#8 else 0x00#8
  | .toggle => s.led ^^^ 0xFF#8

/-- A3: `TBASE + ((TSAMPLE - TBASE) >> BASELINE_SHIFT)` (R500). -/
def baselineUp (c : Config) (sample base : Half) : Half := base + ((sample - base) >>> c.baselineShift)

/-- A5: `TBASE - ((TBASE - TSAMPLE) >> BASELINE_SHIFT)` (R500). -/
def baselineDown (c : Config) (sample base : Half) : Half := base - ((base - sample) >>> c.baselineShift)

/-- `SCAN_SVC` with `DEBOUNCE` and `ADAPT` inline, one statement (R491, R496, R500, R23). -/
def scanStep (p : ScanPos) (s : State) : State :=
  match p with
  | .c0 => (s.clearAtEntry .scan).goto (.scan (.filter .f1))
  | .filter f =>
    match filterStep f s with
    | (some f', s') => s'.goto (.scan (.filter f'))
    | (none, s') => s'.goto (.scan .c2)
  | .c2 => { s with tent := classify s.cfg s.tsample s.tbase }.goto (.scan .b1)
  | .b1 => if s.tent ≠ s.tstate then s.goto (.scan .b2) else s.goto (.scan .b9)
  | .b2 => if debounceReached s.cfg s.tdeb then s.goto (.scan .b3) else s.goto (.scan .b7)
  | .b3 => { s with tstate := s.tent }.goto (.scan .b4)
  | .b4 => { s with tdeb := 0#4 }.goto (.scan .b5)
  | .b5 => s.goto (.scan (.transfer (.t1 (commitValue s))))
  | .transfer t =>
    match transferStep t s with
    | (some t', s') => s'.goto (.scan (.transfer t'))
    | (none, s') => s'.goto (.scan .a1)
  | .b7 => { s with tdeb := s.tdeb + 1#4 }.goto (.scan .a1)
  | .b9 => { s with tdeb := 0#4 }.goto (.scan .a1)
  | .a1 => if s.tstate then s.goto (.scan .c5) else s.goto (.scan .a2)
  | .a2 => if s.tbase.toNat < s.tsample.toNat then s.goto (.scan .a3) else s.goto (.scan .a4)
  | .a3 => { s with tbase := baselineUp s.cfg s.tsample s.tbase }.goto (.scan .c5)
  | .a4 => if s.tsample.toNat < s.tbase.toNat then s.goto (.scan .a5) else s.goto (.scan .c5)
  | .a5 => { s with tbase := baselineDown s.cfg s.tsample s.tbase }.goto (.scan .c5)
  | .c5 => (s.clearAtExit .scan).goto (.scan .c6)
  | .c6 => s.endJob

/-- `CAL_JOB`, one statement (R511). L7 enters phase RUN and completes the job (R713). -/
def calStep (p : CalPos) (s : State) : State :=
  match p with
  | .l1 => { s with cacc := 0#16 }.goto (.cal .l2)
  | .l2 => { s with j := 0 }.goto (.cal .l2Test)
  | .l2Test => if s.j < s.cfg.calSamples then s.goto (.cal (.filter .f1)) else s.goto (.cal .l5)
  | .filter f =>
    match filterStep f s with
    | (some f', s') => s'.goto (.cal (.filter f'))
    | (none, s') => s'.goto (.cal .l4)
  | .l4 => { s with cacc := s.cacc + s.tsample, j := s.j + 1 }.goto (.cal .l2Test)
  | .l5 => { s with tbase := BitVec.ofNat 16 (s.cacc.toNat / s.cfg.calSamples) }.goto (.cal .l6)
  | .l6 => { s with tstate := false, tdeb := 0#4 }.goto (.cal .l7)
  | .l7 => { s with phase := .run }.endJob

/-- `response <- {TDEB[3:0], 0b000, TSTATE}` (R520). -/
def rdTstatBody (s : State) : Body := .reply s.tstatByte

/-- `response <- TSAMPLE[7:0]` (R521). -/
def rdTsamplelBody (s : State) : Body := .reply (lowByte s.tsample)

/-- `response <- TSAMPLE[15:8]` (R522). -/
def rdTsamplehBody (s : State) : Body := .reply (highByte s.tsample)

/-- `response <- TBASE[7:0]` (R523). -/
def rdTbaselBody (s : State) : Body := .reply (lowByte s.tbase)

/-- `response <- TBASE[15:8]` (R524). -/
def rdTbasehBody (s : State) : Body := .reply (highByte s.tbase)

end Sys2Proof.Machine
end

