-- ==== Sys2Proof/Machine/Sequencer.lean ====
section
/-! DEFINITION. The sequencer and its surroundings: the coming events (R10, R312), one statement of the job in
progress (R141), a host transaction run as one job (R209, R631), the choice of the next job (R620, R624), sleep
(R650) and the reset step (R711). -/

namespace Sys2Proof.Machine

/-! ## One statement of a job -/

/-- The pseudocode of each host transaction (R303). -/
def hostBody (i : Instr) (s : State) : Body :=
  match i with
  | .ledAssign d => ledAssignBody d s
  | .ledSet d => ledSetBody d s
  | .ledClr d => ledClrBody d s
  | .ledTgl d => ledTglBody d s
  | .mmaskEn d => mmaskEnBody d s
  | .mmaskDis d => mmaskDisBody d s
  | .rdLed => rdLedBody s
  | .rdMmask => rdMmaskBody s
  | .rdCount => rdCountBody s
  | .rdTstat => rdTstatBody s
  | .rdTsamplel => rdTsamplelBody s
  | .rdTsampleh => rdTsamplehBody s
  | .rdTbasel => rdTbaselBody s
  | .rdTbaseh => rdTbasehBody s
  | .rdFlags => rdFlagsBody s

/-- One statement of a host transaction's job. Its last statement completes it and delivers the response (R631). -/
def hostStep (i : Instr) (p : HostPos) (s : State) : State :=
  match p with
  | .body =>
    match hostBody i s with
    | .transfer v => s.goto (.host i (.transfer (.t1 v)))
    | .mask m => ({ s with mmask := m }.observe .done).endJob
    | .reply b => (s.observe (.response b)).endJob
  | .transfer t =>
    match transferStep t s with
    | (some t', s') => s'.goto (.host i (.transfer t'))
    | (none, s') => (s'.observe .done).endJob

/-- One statement of the job in progress (R141). -/
def jobStep (j : Job) (s : State) : State :=
  match j with
  | .host i p => hostStep i p s
  | .motion p => motionStep p s
  | .tick p => tickStep p s
  | .scan p => scanStep p s
  | .cal p => calStep p s

/-! ## The coming events -/

/-- The job is held at an unsatisfied `await`: T4 (R407) or S7 (R488). -/
def Job.holds (s : State) : Job → Bool
  | .host _ (.transfer .t4) => !s.spiTc
  | .motion (.transfer .t4) => !s.spiTc
  | .tick (.transfer .t4) => !s.spiTc
  | .scan (.transfer .t4) => !s.spiTc
  | .scan (.filter (.shot .s7)) => !s.adcResRdy
  | .cal (.filter (.shot .s7)) => !s.adcResRdy
  | _ => false

/-- The sequencer is at rest: past the reset step, and held at an `await`, or without a job and without a transaction
to take (log entry 2). -/
def State.atRest (s : State) : Bool :=
  decide (s.phase ≠ .reset) &&
  match s.seq with
  | .busy j => j.holds s
  | .idle => s.offered.isNone
  | .sleep => s.offered.isNone

/-- A host transaction is in progress (R140). -/
def State.hostBusy (s : State) : Bool :=
  match s.seq with
  | .busy (.host _ _) => true
  | _ => false

/-- The dispatch step can take a job (R620): phase RUN and no job in progress. -/
def State.canTake (s : State) : Bool := decide (s.phase = .run) && !s.isBusy

/-- The pending sources, as a list (R620). -/
def State.pendingSources (s : State) : List Source :=
  [Source.motion, Source.tick, Source.scan].filter s.pending

/-- The offered host transaction, as a candidate (R620). -/
def State.hostCandidate (s : State) : List Pick := if s.offered.isSome then [.host] else []

/-- The highest pending source of a total order; the host's transaction only when no flag is pending (R624). -/
def State.ordered (order : List Source) (s : State) : List Pick :=
  match order.find? s.pending with
  | some src => [.service src]
  | none => s.hostCandidate

/-- The jobs the dispatch step may choose now (R620, R624). -/
def State.candidates (s : State) : List Pick :=
  match s.cfg.priority with
  | .any => s.pendingSources.map .service ++ s.hostCandidate
  | .order a b c => s.ordered [a, b, c]

/-- Whether an event can happen now: `TICK` and `SCAN` only in RUN (R720), a completion only while its peripheral is
busy (R406, R487), an offer only when none is open (R655), a choice only of a candidate (R620). -/
def Event.enabled (s : State) : Event → Bool
  | .pin _ => true
  | .tick => decide (s.phase = .run)
  | .scan => decide (s.phase = .run)
  | .spiDone => s.spiBusy
  | .adcDone _ => s.adcBusy
  | .offer _ => s.offered.isNone && !s.hostBusy
  | .run p => s.canTake && s.candidates.contains p

/-- `SPI_DONE` (R406): the eight bits are in the stage (R404). -/
def spiDoneEvent (s : State) : State :=
  { s with sr := shiftByte s.sr s.spiData, spiBusy := false, spiTc := true }

/-- `ADC_DONE(r)` (R487), the draw cut to `ADC_BITS` bits (log entry 14). -/
def adcDoneEvent (r : Reading) (s : State) : State :=
  { s with adcRes := BitVec.ofNat 10 (r.toNat % 2 ^ s.cfg.adcBits), adcBusy := false, adcResRdy := true }

/-- The effect of an environment step or a host's offer. A choice of job is no environment step: `plan` acts on it. -/
def Event.fire (s : State) : Event → State
  | .pin l => pinEvent l s
  | .tick => s.setPending .tick
  | .scan => s.setPending .scan
  | .spiDone => spiDoneEvent s
  | .adcDone r => adcDoneEvent r s
  | .offer t => { s with offered := some t }
  | .run _ => s

/-- The first coming event's time has come (log entry 2). -/
def Due.now (s : State) : Due → Bool
  | .atRest => s.atRest
  | .after n => decide (n = 0)

/-- One sequencer move has passed. -/
def Due.tickDown : Due → Due
  | .atRest => .atRest
  | .after n => .after (n - 1)

/-- One sequencer move has passed for the first coming event. -/
def State.passMove (s : State) : State :=
  match s.inputs with
  | [] => s
  | i :: rest => { s with inputs := { i with due := i.due.tickDown } :: rest }

/-- The first coming event, if its time has come and it can happen, with the state it happens in. One that cannot
happen yet waits (log entry 3). -/
def State.nextEvent (s : State) : Option (Event × State) :=
  match s.inputs with
  | [] => none
  | i :: rest => if i.due.now s && i.ev.enabled s then some (i.ev, { s with inputs := rest }) else none

/-- One move while a job is in progress: the environment's if it is its turn, else one statement. -/
def jobMove (j : Job) (s : State) : State :=
  match s.nextEvent with
  | some (e, s') => e.fire s'
  | none => jobStep j s.passMove

/-! ## A host transaction as one step -/

/-- Moves until no job is in progress, at most `fuel` of them. -/
def runJob (fuel : Nat) (s : State) : State :=
  match fuel with
  | 0 => s
  | fuel + 1 =>
    match s.seq with
    | .busy j => runJob fuel (jobMove j s)
    | .idle => s
    | .sleep => s

/-- The moves an event can take up. -/
def Due.moves : Due → Nat
  | .atRest => 1
  | .after n => n + 1

/-- Enough moves to complete a host transaction, or to reach the hold it never leaves: its own statements (at most
eight) and the moves the coming events can take up (log entry 5). -/
def State.hostFuel (s : State) : Nat := (s.inputs.map (fun i => i.due.moves)).sum + 8

/-- A host transaction, issued: taken and run as one job when the sequencer can take it (R209, R620, R631); else it
waits, offered (R715, R630, log entry 13). A hang leaves the job held at T4 (R407). -/
def hostJob (i : Instr) (s : State) : Host.Outcome State Fault Refusal :=
  if s.cfg.legal then
    if s.canTake then .next (runJob s.hostFuel (s.startHost i))
    else .next { s with offered := some (encode i) }
  else .refused .illegalConfig

/-! ## The next move of the machine -/

/-- The reset step (R711): every piece of state to its value of R700, then phase CAL with `CAL_JOB` at L1. What R700
gives no value or a draw keeps what it holds (log entry 11). -/
def resetStep (s : State) : State :=
  { s with
    phase := .cal, seq := .busy (.cal .l1), led := 0x00#8, mmask := s.cfg.motionMaskInit, count := 0#8,
    tstate := false, tdeb := 0#4, motionPend := false, tickPend := false, scanPend := false,
    spiEn := false, spiBusy := false, spiTc := false, latch := false,
    adcMux := .gnd, adcBusy := false, adcResRdy := false, padMode := .float,
    acc := 0#16, k := 0, cacc := 0#16, j := 0, tent := false }

/-- What the next move is: a state, a host transaction to execute, or a refusal. -/
inductive Plan where
  | go (s : State)
  | execute (i : Instr) (s : State)
  | refuse (r : Refusal)

/-- The dispatch step with the choice made (R620, R622). A reserved transaction is refused when it is taken (R203,
log entry 22). -/
def dispatch (p : Pick) (s : State) : Plan :=
  match p with
  | .service src => .go (s.startService src)
  | .host =>
    match s.offered with
    | none => .go s
    | some t =>
      match decode t with
      | .instr i => .execute i s
      | .reserved _ _ => .refuse .reservedAccess

/-- The sequencer's move when it may take a job: the only candidate, a free choice among several (R624), or sleep when
there is none (R650, log entry 16). -/
def dispatchMove (s : State) : Plan :=
  match s.candidates with
  | [] => .go { s with seq := .sleep }
  | [p] => dispatch p s
  | p :: q :: ps =>
    dispatch ((p :: q :: ps).getD (Config.freePick s.draws % (ps.length + 2)) p) { s with draws := s.draws + 1 }

/-- The sequencer's move: the reset step, a statement, a dispatch, or nothing (phase CAL without a job, which no run
reaches, log entry 21). -/
def sequencerMove (s : State) : Plan :=
  match s.phase with
  | .reset => .go (resetStep s)
  | .cal =>
    match s.seq with
    | .busy j => .go (jobStep j s)
    | .idle => .go s
    | .sleep => .go s
  | .run =>
    match s.seq with
    | .busy j => .go (jobStep j s)
    | .idle => dispatchMove s
    | .sleep => dispatchMove s

/-- The next move: the first coming event if it is its turn (R10), else the sequencer's. An illegal configuration is
refused (R11, R601). -/
def plan (s : State) : Plan :=
  if s.cfg.legal then
    match s.nextEvent with
    | some (.run p, s') => dispatch p s'
    | some (e, s') => .go (e.fire s')
    | none => sequencerMove s.passMove
  else .refuse .illegalConfig

/-- The state in which the dispatch step takes the transaction `w` next (log entry 15): phase RUN, no job in progress,
`w` offered, and the sequencer told to take it before the coming events. Under a fixed `PRIORITY` it also takes that no
flag is pending (R624). -/
def placeTransaction (s : State) (w : Nat) : State :=
  let clear := decide (s.cfg.priority ≠ .any)
  { s with
    phase := .run, seq := .idle, offered := some (BitVec.ofNat 13 w),
    inputs := ⟨.after 0, .run .host⟩ :: s.inputs,
    motionPend := s.motionPend && !clear, tickPend := s.tickPend && !clear, scanPend := s.scanPend && !clear }

end Sys2Proof.Machine
end

