-- ==== Sys2Proof/Machine/Transactions.lean ====
section
/-! DEFINITION. The meaning of each host transaction: its job, run as one step (R209). The pseudocode of each stands in
its unit's file (`ledAssignBody` and so on) and is found by `hostBody`. -/

namespace Sys2Proof.Machine

/-- `LED.ASSIGN d` (R410): `ledAssignBody`. -/
def execLedAssign (d : Byte) (s : State) : Host.Outcome State Fault Refusal := hostJob (.ledAssign d) s

/-- `LED.SET d` (R411): `ledSetBody`. -/
def execLedSet (d : Byte) (s : State) : Host.Outcome State Fault Refusal := hostJob (.ledSet d) s

/-- `LED.CLR d` (R412): `ledClrBody`. -/
def execLedClr (d : Byte) (s : State) : Host.Outcome State Fault Refusal := hostJob (.ledClr d) s

/-- `LED.TGL d` (R413): `ledTglBody`. -/
def execLedTgl (d : Byte) (s : State) : Host.Outcome State Fault Refusal := hostJob (.ledTgl d) s

/-- `MMASK.EN d` (R420): `mmaskEnBody`. -/
def execMmaskEn (d : Byte) (s : State) : Host.Outcome State Fault Refusal := hostJob (.mmaskEn d) s

/-- `MMASK.DIS d` (R421): `mmaskDisBody`. -/
def execMmaskDis (d : Byte) (s : State) : Host.Outcome State Fault Refusal := hostJob (.mmaskDis d) s

/-- `RD.LED` (R414): `rdLedBody`. -/
def execRdLed (s : State) : Host.Outcome State Fault Refusal := hostJob .rdLed s

/-- `RD.MMASK` (R422): `rdMmaskBody`. -/
def execRdMmask (s : State) : Host.Outcome State Fault Refusal := hostJob .rdMmask s

/-- `RD.COUNT` (R470): `rdCountBody`. -/
def execRdCount (s : State) : Host.Outcome State Fault Refusal := hostJob .rdCount s

/-- `RD.TSTAT` (R520): `rdTstatBody`. -/
def execRdTstat (s : State) : Host.Outcome State Fault Refusal := hostJob .rdTstat s

/-- `RD.TSAMPLEL` (R521): `rdTsamplelBody`. -/
def execRdTsamplel (s : State) : Host.Outcome State Fault Refusal := hostJob .rdTsamplel s

/-- `RD.TSAMPLEH` (R522): `rdTsamplehBody`. -/
def execRdTsampleh (s : State) : Host.Outcome State Fault Refusal := hostJob .rdTsampleh s

/-- `RD.TBASEL` (R523): `rdTbaselBody`. -/
def execRdTbasel (s : State) : Host.Outcome State Fault Refusal := hostJob .rdTbasel s

/-- `RD.TBASEH` (R524): `rdTbasehBody`. -/
def execRdTbaseh (s : State) : Host.Outcome State Fault Refusal := hostJob .rdTbaseh s

/-- `RD.FLAGS` (R540): `rdFlagsBody`. -/
def execRdFlags (s : State) : Host.Outcome State Fault Refusal := hostJob .rdFlags s

end Sys2Proof.Machine
end

