-- ==== Sys2Proof/Machine/Dispatch.lean ====
section
/-! DEFINITION. The one match over the host transactions. -/

namespace Sys2Proof.Machine

def exec (i : Instr) (s : State) : Host.Outcome State Fault Refusal :=
  match i with
  | .ledAssign d => Sys2Proof.Machine.execLedAssign d s
  | .ledSet d => Sys2Proof.Machine.execLedSet d s
  | .ledClr d => Sys2Proof.Machine.execLedClr d s
  | .ledTgl d => Sys2Proof.Machine.execLedTgl d s
  | .mmaskEn d => Sys2Proof.Machine.execMmaskEn d s
  | .mmaskDis d => Sys2Proof.Machine.execMmaskDis d s
  | .rdLed => Sys2Proof.Machine.execRdLed s
  | .rdMmask => Sys2Proof.Machine.execRdMmask s
  | .rdCount => Sys2Proof.Machine.execRdCount s
  | .rdTstat => Sys2Proof.Machine.execRdTstat s
  | .rdTsamplel => Sys2Proof.Machine.execRdTsamplel s
  | .rdTsampleh => Sys2Proof.Machine.execRdTsampleh s
  | .rdTbasel => Sys2Proof.Machine.execRdTbasel s
  | .rdTbaseh => Sys2Proof.Machine.execRdTbaseh s
  | .rdFlags => Sys2Proof.Machine.execRdFlags s

end Sys2Proof.Machine
end

