-- ==== Sys2Proof/Machine/Step.lean ====
section
/-! DEFINITION. One step of the machine: one move of the environment, the host or the sequencer, a host transaction
being run as one (log entry 5). -/

namespace Sys2Proof.Machine

/-- One step (R9, R10, R141, R620): `plan` says what the next move is. -/
def step (s : State) : Host.Outcome State Fault Refusal :=
  match plan s with
  | .go s' => .next s'
  | .execute i s' => exec i s'
  | .refuse r => .refused r

/-- `s` with the transaction `w` as the next one the sequencer takes (log entry 15). -/
def State.withFetchWord (s : State) (_nbits w : Nat) : State := placeTransaction s w

end Sys2Proof.Machine
end

