-- ==== Sys2Proof/Safety.lean ====
section
/-! DEFINITION. The terms that claims are stated in: when a transaction can be taken, quiet surroundings, the state that
a completed job leaves, the specification's laws as functions on values, and the invariant of every run. -/

/-- The block with other coming events. -/
def Sys2Proof.Machine.State.withInputs (s : Sys2Proof.Machine.State) (l : List Sys2Proof.Machine.Input) :
    Sys2Proof.Machine.State := { s with inputs := l }

namespace Sys2Proof.Safety

open Sys2Proof.Machine

/-! ## Hypotheses on a state -/

/-- A legal block in phase RUN with no job in progress: the sequencer can take a transaction (R620). -/
structure Ready (s : State) : Prop where
  legal : s.cfg.legal = true
  run : s.phase = .run
  free : s.isBusy = false

/-- A legal block in phase RUN with this job in progress (R140). -/
structure Running (j : Job) (s : State) : Prop where
  legal : s.cfg.legal = true
  run : s.phase = .run
  at_job : s.seq = .busy j

/-- The serial peripheral is disabled and has nothing in flight, as between jobs (R653). -/
structure SpiIdle (s : State) : Prop where
  en : s.spiEn = false
  busy : s.spiBusy = false
  tc : s.spiTc = false

/-- The ADC converts nothing and holds no unread result. -/
structure AdcIdle (s : State) : Prop where
  busy : s.adcBusy = false
  rdy : s.adcResRdy = false

/-- No coming event happens while the sequencer is moving: the next one, if any, waits until it is at rest. -/
def Patient (l : List Input) : Prop := ∀ i, l.head? = some i → i.due = .atRest

/-- An event that happens when the sequencer is next at rest. -/
def lazily (e : Event) : Input := ⟨.atRest, e⟩

/-- An event that happens at once. -/
def atOnce (e : Event) : Input := ⟨.after 0, e⟩

/-- The first coming event cannot happen now, so that the sequencer moves. -/
def SequencerTurn (s : State) : Prop := s.nextEvent = none

/-- An instruction of the LED driver that transfers, with the value it transfers (R410 to R413, R415). -/
def ledValue (led : Byte) : Instr → Option Byte
  | .ledAssign d => some d
  | .ledSet d => some (led ||| d)
  | .ledClr d => some (led &&& ~~~d)
  | .ledTgl d => some (led ^^^ d)
  | .mmaskEn _ => none
  | .mmaskDis _ => none
  | .rdLed => none
  | .rdMmask => none
  | .rdCount => none
  | .rdTstat => none
  | .rdTsamplel => none
  | .rdTsampleh => none
  | .rdTbasel => none
  | .rdTbaseh => none
  | .rdFlags => none

/-- An instruction of the strip policy that writes, with the value it leaves in `MMASK` (R420, R421). -/
def maskValue (mmask : Byte) : Instr → Option Byte
  | .mmaskEn d => some (mmask ||| d)
  | .mmaskDis d => some (mmask &&& ~~~d)
  | .ledAssign _ => none
  | .ledSet _ => none
  | .ledClr _ => none
  | .ledTgl _ => none
  | .rdLed => none
  | .rdMmask => none
  | .rdCount => none
  | .rdTstat => none
  | .rdTsamplel => none
  | .rdTsampleh => none
  | .rdTbasel => none
  | .rdTbaseh => none
  | .rdFlags => none

/-- A read of a register that no event of the environment changes, with its response (R414, R422, R470, R520 to R524).
`RD.FLAGS` shows flags that events set, so it is not among them. -/
def readValue (s : State) : Instr → Option Byte
  | .rdLed => some s.led
  | .rdMmask => some s.mmask
  | .rdCount => some s.count
  | .rdTstat => some s.tstatByte
  | .rdTsamplel => some (s.tsample.extractLsb' 0 8)
  | .rdTsampleh => some (s.tsample.extractLsb' 8 8)
  | .rdTbasel => some (s.tbase.extractLsb' 0 8)
  | .rdTbaseh => some (s.tbase.extractLsb' 8 8)
  | .rdFlags => none
  | .ledAssign _ => none
  | .ledSet _ => none
  | .ledClr _ => none
  | .ledTgl _ => none
  | .mmaskEn _ => none
  | .mmaskDis _ => none

/-! ## What a completed job leaves -/

/-- No job, and the scratch values gone (R631, log entry 10). -/
def released (s : State) : State :=
  { s with seq := .idle, acc := 0#16, k := 0, cacc := 0#16, j := 0, tent := false }

/-- A completed `TRANSFER(v)` (R403, R405, R409): `LED`, the stage and the outputs hold `v`, one latch event, the serial
peripheral at rest. -/
def transferred (v : Byte) (s : State) : State :=
  { s with led := v, spiData := v, sr := v, q := v, spiEn := false, spiBusy := false, spiTc := false, latch := false,
           obs := s.obs ++ [.latch v] }

/-- A host transaction over: nothing offered, and the response delivered (R631). -/
def answered (o : Obs) (s : State) : State := { released s with offered := none, obs := s.obs ++ [o] }

/-- The registers, flags and unit states that no host transaction writes and no event of the environment writes while
the ADC is idle. -/
structure HostFrame (s t : State) : Prop where
  cfg : t.cfg = s.cfg
  phase : t.phase = s.phase
  count : t.count = s.count
  tsample : t.tsample = s.tsample
  tbase : t.tbase = s.tbase
  tstate : t.tstate = s.tstate
  tdeb : t.tdeb = s.tdeb
  adcMux : t.adcMux = s.adcMux
  adcBusy : t.adcBusy = s.adcBusy
  adcResRdy : t.adcResRdy = s.adcResRdy
  adcRes : t.adcRes = s.adcRes
  padMode : t.padMode = s.padMode
  draws : t.draws = s.draws
  motionPend : s.motionPend = true → t.motionPend = true
  tickPend : s.tickPend = true → t.tickPend = true
  scanPend : s.scanPend = true → t.scanPend = true

/-- The LED driver's and serial link's state, which only a `TRANSFER` changes (R408). -/
structure LedFrame (s t : State) : Prop where
  led : t.led = s.led
  spiEn : t.spiEn = s.spiEn
  spiBusy : t.spiBusy = s.spiBusy
  spiTc : t.spiTc = s.spiTc
  spiData : t.spiData = s.spiData
  sr : t.sr = s.sr
  q : t.q = s.q
  latch : t.latch = s.latch

/-! ## Runs -/

/-- Some number of steps leads from `s` to `t`. -/
def Leads (s t : State) : Prop := ∃ n, core.run n s = .next t

/-- Transactions executed one after the other, each when the one before has completed (R221). -/
def execAll : List Instr → State → Host.Outcome State Fault Refusal
  | [], s => .next s
  | i :: is, s =>
    match exec i s with
    | .next t => execAll is t
    | .fault r => .fault r
    | .refused r => .refused r

/-- The value transferred by each of a sequence of LED operations, from the `LED` before the first (R415). -/
def ledValues (led : Byte) : List Instr → List Byte
  | [] => []
  | i :: is =>
    match ledValue led i with
    | some v => v :: ledValues v is
    | none => ledValues led is

/-- The last of the values transferred: `LED` after the sequence (R415). -/
def ledAfter (led : Byte) (is : List Instr) : Byte := (ledValues led is).getLastD led

/-- The same job, at this or another of its statements (R630). -/
def SameJob : Job → Job → Prop
  | .host i _, .host i' _ => i = i'
  | .motion _, .motion _ => True
  | .tick _, .tick _ => True
  | .scan _, .scan _ => True
  | .cal _, .cal _ => True
  | _, _ => False

/-- The statement at which a job starts a `TRANSFER` of `v` (T1). -/
def transferStart (v : Byte) : Job → Prop
  | .host _ p => p = .transfer (.t1 v)
  | .motion p => p = .transfer (.t1 v)
  | .tick p => p = .transfer (.t1 v)
  | .scan p => p = .transfer (.t1 v)
  | .cal _ => False

/-- A job is at T6, the latch of its `TRANSFER` (R405). -/
def latching : Job → Prop
  | .host _ p => p = .transfer .t6
  | .motion p => p = .transfer .t6
  | .tick p => p = .transfer .t6
  | .scan p => p = .transfer .t6
  | .cal _ => False

/-- The statement at which a service clears its flag when `FLAG_CLEAR_AT` is `EXIT`: M3, K7, C5 (R614). -/
def exitClear : Source → Job
  | .motion => .motion .m3
  | .tick => .tick .k7
  | .scan => .scan .c5

/-- The order of the phases (R710). -/
def phaseRank : Phase → Nat
  | .reset => 0
  | .cal => 1
  | .run => 2

/-- `n` ticks, each served before the next comes. -/
def servedTicks : Nat → List Input
  | 0 => []
  | n + 1 => lazily .tick :: lazily (.run (.service .tick)) :: servedTicks n

/-- The byte a touch commit transfers (R497), for the committed classification. -/
def commitByte (a : TouchAction) (touched : Bool) (led : Byte) : Byte :=
  match a with
  | .assignByState => if touched then 0xFF#8 else 0x00#8
  | .toggle => led ^^^ 0xFF#8

/-- How many consecutive tick services have read the sensor inactive since `COUNT` was last set to `TIMEOUT_SEC` (R471),
after one more step, from `s`, where there were `n`: statement K1 reads the sensor, and M2 and K2 set `COUNT`. -/
def inactiveAfter (s : State) (n : Nat) : Nat :=
  if s.nextEvent.isSome then n
  else
    match s.seq with
    | .busy (.tick .k1) => if s.motionN then n + 1 else 0
    | .busy (.tick .k2) => 0
    | .busy (.motion .m2) => 0
    | _ => n

/-- The state after `k` steps of the machine from `s`, with the count of inactive tick services kept along the run. -/
def countedRun : Nat → State → Nat → Option (State × Nat)
  | 0, s, n => some (s, n)
  | k + 1, s, n =>
    match step s with
    | .next t => countedRun k t (inactiveAfter s n)
    | .fault _ => none
    | .refused _ => none

/-! ## Laws on values -/

/-- What one tick service leaves in `COUNT` (R463): `level` is `MOTION_N` as it read it. -/
def tickCount (timeout count : Nat) (level : Bool) : Nat :=
  if level then count - 1 else timeout

/-- The filtered sample of a list of readings: the floor of their mean (R490). -/
def filtered (rs : List Reading) : Nat := (rs.map (fun r => r.toNat)).sum / rs.length

/-- The seed of the baseline: the floor of the mean of the filtered samples (R511). -/
def seeded (rss : List (List Reading)) : Nat := (rss.map filtered).sum / rss.length

/-- What `ADAPT` leaves in `TBASE` (R500), on naturals. -/
def adapted (shift sample base : Nat) : Nat :=
  if base < sample then base + (sample - base) / 2 ^ shift
  else base - (base - sample) / 2 ^ shift

/-- The readings, as coming events. -/
def conversions (rs : List Reading) : List Input := rs.map (fun r => lazily (.adcDone r))

/-- The state in which a filtered sample of the readings `rs` leaves the block inside its job (R486, R490). -/
def sampled (rs : List Reading) (s : State) : State :=
  { s with
    tsample := BitVec.ofNat 16 (filtered rs), acc := BitVec.ofNat 16 (rs.map (fun r => r.toNat)).sum, k := rs.length,
    adcMux := .pad, padMode := .float, adcBusy := false, adcResRdy := false, adcRes := rs.getLastD s.adcRes }

/-! ## The invariant of every run -/

/-- The largest reading (R487). -/
def maxReading (c : Config) : Nat := 2 ^ c.adcBits - 1

/-- Some latch event has happened. -/
def HasLatched (s : State) : Prop := ∃ v, Obs.latch v ∈ s.obs

/-- Once a latch event has happened, the outputs show `LED` (R409). -/
def OutputsFollow (s : State) : Prop := HasLatched s → s.q = s.led

/-- Inside `TRANSFER` (R403, R404, R406): what the serial link holds before each statement. -/
def TransferOk (s : State) : TransferPos → Prop
  | .t1 _ => SpiIdle s ∧ OutputsFollow s
  | .t2 v => SpiIdle s ∧ s.led = v
  | .t3 v => s.spiEn = true ∧ s.spiBusy = false ∧ s.spiTc = false ∧ s.led = v
  | .t4 => s.spiEn = true ∧ ((s.spiBusy = true ∧ s.spiTc = false ∧ s.spiData = s.led) ∨
      (s.spiBusy = false ∧ s.spiTc = true ∧ s.sr = s.led))
  | .t5 => s.spiEn = true ∧ s.spiBusy = false ∧ s.spiTc = true ∧ s.sr = s.led
  | .t6 => s.spiEn = true ∧ s.spiBusy = false ∧ s.spiTc = false ∧ s.sr = s.led
  | .t7 => s.spiEn = true ∧ s.spiBusy = false ∧ s.spiTc = false ∧ s.q = s.led

/-- Inside `SINGLE_SHOT` (R486, R487). -/
def ShotOk (s : State) : ShotPos → Prop
  | .s7 => (s.adcBusy = true ∧ s.adcResRdy = false) ∨ (s.adcBusy = false ∧ s.adcResRdy = true)
  | .s8 => s.adcBusy = false ∧ s.adcResRdy = true
  | .s1 => AdcIdle s
  | .s2 => AdcIdle s
  | .s3 => AdcIdle s
  | .s4 => AdcIdle s
  | .s5 => AdcIdle s
  | .s6 => AdcIdle s

/-- Inside `FILTERED_SAMPLE` (R490): the accumulator holds at most `K` readings, so it never overflows (R14). -/
def FilterOk (s : State) : FilterPos → Prop
  | .f1 => AdcIdle s
  | .f2 => AdcIdle s ∧ s.acc = 0#16
  | .f2Test => AdcIdle s ∧ s.acc.toNat ≤ s.k * maxReading s.cfg ∧ s.k ≤ s.cfg.scanSamples
  | .shot p => ShotOk s p ∧ s.acc.toNat ≤ s.k * maxReading s.cfg ∧ s.k < s.cfg.scanSamples
  | .f3 r => AdcIdle s ∧ r.toNat ≤ maxReading s.cfg ∧ s.acc.toNat ≤ s.k * maxReading s.cfg ∧ s.k < s.cfg.scanSamples
  | .f4 => AdcIdle s ∧ s.acc.toNat ≤ s.cfg.scanSamples * maxReading s.cfg

/-- Outside the inline procedures: both peripherals at rest and the outputs showing `LED` (R409, R653). -/
structure Quiet (s : State) : Prop where
  spi : SpiIdle s
  adc : AdcIdle s
  follow : OutputsFollow s

/-- Before each statement of `TICK_SVC`: K4 never underflows (R463). -/
def TickOk (s : State) : TickPos → Prop
  | .transfer p => TransferOk s p ∧ AdcIdle s
  | .k4 => Quiet s ∧ 0 < s.count.toNat
  | .k0 => Quiet s
  | .k1 => Quiet s
  | .k2 => Quiet s
  | .k3 => Quiet s
  | .k5 => Quiet s
  | .k6 => Quiet s
  | .k7 => Quiet s
  | .k8 => Quiet s

/-- Before each statement of `MOTION_SVC` (R443). -/
def MotionOk (s : State) : MotionPos → Prop
  | .transfer p => TransferOk s p ∧ AdcIdle s
  | .m0 => Quiet s
  | .m1 => Quiet s
  | .m2 => Quiet s
  | .m3 => Quiet s
  | .m4 => Quiet s

/-- Before each statement of `SCAN_SVC`: B7 stays below the threshold (R496); A2 to A5 run only while released, and A3 and
A5 move toward the sample (R500). -/
def ScanOk (s : State) : ScanPos → Prop
  | .filter p => FilterOk s p ∧ SpiIdle s ∧ OutputsFollow s
  | .transfer p => TransferOk s p ∧ AdcIdle s
  | .b7 => Quiet s ∧ s.tdeb.toNat + 1 < s.cfg.touchDebounce
  | .a2 => Quiet s ∧ s.tstate = false
  | .a3 => Quiet s ∧ s.tstate = false ∧ s.tbase.toNat < s.tsample.toNat
  | .a4 => Quiet s ∧ s.tstate = false
  | .a5 => Quiet s ∧ s.tstate = false ∧ s.tsample.toNat < s.tbase.toNat
  | .c0 => Quiet s
  | .c2 => Quiet s
  | .b1 => Quiet s
  | .b2 => Quiet s
  | .b3 => Quiet s
  | .b4 => Quiet s
  | .b5 => Quiet s
  | .b9 => Quiet s
  | .a1 => Quiet s
  | .c5 => Quiet s
  | .c6 => Quiet s

/-- Before each statement of `CAL_JOB`: the accumulator holds at most `J` filtered samples (R14, R511). -/
def CalOk (s : State) : CalPos → Prop
  | .l1 => Quiet s
  | .l2 => Quiet s ∧ s.cacc = 0#16
  | .l2Test => Quiet s ∧ s.cacc.toNat ≤ s.j * maxReading s.cfg ∧ s.j ≤ s.cfg.calSamples
  | .filter p => FilterOk s p ∧ SpiIdle s ∧ OutputsFollow s ∧
      s.cacc.toNat ≤ s.j * maxReading s.cfg ∧ s.j < s.cfg.calSamples
  | .l4 => Quiet s ∧ s.cacc.toNat ≤ s.j * maxReading s.cfg ∧ s.j < s.cfg.calSamples
  | .l5 => Quiet s ∧ s.cacc.toNat ≤ s.cfg.calSamples * maxReading s.cfg
  | .l6 => Quiet s
  | .l7 => Quiet s

/-- Before each statement of the job in progress. -/
def JobOk (s : State) : Job → Prop
  | .host _ .body => Quiet s
  | .host _ (.transfer p) => TransferOk s p ∧ AdcIdle s
  | .motion p => MotionOk s p
  | .tick p => TickOk s p
  | .scan p => ScanOk s p
  | .cal p => CalOk s p

/-- Between jobs, `Quiet` (R409, R653); during one, what its next statement needs. -/
def SeqOk (s : State) : Seq → Prop
  | .busy j => JobOk s j
  | .idle => Quiet s
  | .sleep => Quiet s

/-- The phases (R710 to R713): before the reset step nothing has happened; CAL runs `CAL_JOB` and no tick is latched;
RUN never runs `CAL_JOB`. -/
def PhaseOk (s : State) : Phase → Prop
  | .reset => s.seq = .idle ∧ ¬ HasLatched s ∧ s.motionPend = false ∧ s.tickPend = false ∧ s.scanPend = false
  | .cal => (∃ p, s.seq = .busy (.cal p)) ∧ s.tickPend = false ∧ s.scanPend = false
  | .run => ∀ p, s.seq ≠ .busy (.cal p)

/-- The invariant of every run: the legal ranges of the registers (R104, R105, R106, R108, R133), the peripherals at
rest and `Q` = `LED` between jobs (R409, R653), the phases (R710), and one host transaction at a time (R655). -/
structure Inv (s : State) : Prop where
  legal : s.cfg.legal = true
  count : s.count.toNat ≤ s.cfg.timeoutSec
  tsample : s.tsample.toNat ≤ maxReading s.cfg
  tbase : s.tbase.toNat ≤ maxReading s.cfg
  adcRes : s.adcRes.toNat ≤ maxReading s.cfg
  tdeb : s.tdeb.toNat < s.cfg.touchDebounce
  latch : s.latch = false
  seq : SeqOk s s.seq
  phase : PhaseOk s s.phase
  host : s.hostBusy = true → s.offered = none

end Sys2Proof.Safety
end

