-- ==== Sys2Proof/Certificates/Slice0/Obligations.lean ====
section
/-! DEFINITION. The statements about the model, each with the rules of spec/ it formalises. Where a docstring names log
entries, what they say is the model's choice and not a rule: most often that a host transaction is one step (5), that the
coming moves are a list (2), that the observation is a field (17), and that a job's scratch values are 0 after it (10). -/

open Sys2Proof Sys2Proof.Machine Sys2Proof.Safety

/-! ## Encoding -/

/-- Every instruction's canonical word decodes to it (R301, R302, R303). -/
def Obligations.DecodeOfEncode : Prop := ∀ i : Instr, decode (encode i) = .instr i

/-- A word that decodes to an instruction has the `W` and `A` of its canonical word, and for a write is that word: the
data bits are kept (R300, R301). -/
def Obligations.EncodeOfDecode : Prop :=
  ∀ (t : Txn) (i : Instr), decode t = .instr i →
    fieldW (encode i) = fieldW t ∧ fieldA (encode i) = fieldA t ∧ (fieldW t = true → encode i = t)

/-- The reserved encodings are the writes to 0x6..0xF and the reads of 0x1, 0x2, 0x3, 0x5, 0xD, 0xE, 0xF; every other
word is an instruction (R304, R305). -/
def Obligations.ReservedEncodings : Prop :=
  ∀ t : Txn,
    ((∃ w a, decode t = .reserved w a) ↔
      (fieldW t = true ∧ 6 ≤ (fieldA t).toNat) ∨
      (fieldW t = false ∧ (fieldA t).toNat ∈ [1, 2, 3, 5, 13, 14, 15])) ∧
    ((∃ i, decode t = .instr i) ∨ decode t = .reserved (fieldW t) (fieldA t))

/-- `D` selects nothing: two reads of one address are the same instruction, and a write's operand is `D` as it stands
(R301, R303). -/
def Obligations.DataNeverSelects : Prop :=
  ∀ (w : Bool) (a : BitVec 4) (d e : Byte),
    decode (word false a d) = decode (word false a e) ∧
    (∀ w' a', decode (word w a d) = .reserved w' a' → decode (word w a e) = .reserved w' a') ∧
    decode (word true 0x0 d) = .instr (.ledAssign d) ∧ decode (word true 0x1 d) = .instr (.ledSet d) ∧
    decode (word true 0x2 d) = .instr (.ledClr d) ∧ decode (word true 0x3 d) = .instr (.ledTgl d) ∧
    decode (word true 0x4 d) = .instr (.mmaskEn d) ∧ decode (word true 0x5 d) = .instr (.mmaskDis d)

/-- A few words of each family, as spec/95_test_vectors.md writes them. -/
def Obligations.WordsDecode : Prop :=
  decode 0x10A0#13 = .instr (.ledAssign 0xA0) ∧ decode 0x1130#13 = .instr (.ledSet 0x30) ∧
  decode 0x120C#13 = .instr (.ledClr 0x0C) ∧ decode 0x13FF#13 = .instr (.ledTgl 0xFF) ∧
  decode 0x140C#13 = .instr (.mmaskEn 0x0C) ∧ decode 0x1501#13 = .instr (.mmaskDis 0x01) ∧
  decode 0x00FF#13 = .instr .rdLed ∧ decode 0x04AB#13 = .instr .rdMmask ∧ decode 0x0600#13 = .instr .rdCount ∧
  decode 0x0700#13 = .instr .rdTstat ∧ decode 0x0B00#13 = .instr .rdTbaseh ∧ decode 0x0C00#13 = .instr .rdFlags ∧
  decode 0x1812#13 = .reserved true 0x8 ∧ decode 0x0D00#13 = .reserved false 0xD

/-! ## A step and its instruction -/

/-- When the sequencer takes a transaction that decodes to `i`, the step is the whole of `exec i`: as the only candidate
(the coming events' delay counted down by one move), as the prescribed choice, and from `withFetchWord`. R620 and R622 say
that the dispatch step chooses the transaction and goes to its first statement; that the transaction then runs in the same
step is the model's choice (log entry 5), and so are the prescribed choice and the counted delay (log entry 2) and
`withFetchWord` (log entry 15). A free choice among several candidates is `FreeChoiceIsACandidate`. -/
def Obligations.StepRunsTransaction : Prop :=
  (∀ (s : State) (t : Txn) (i : Instr), Ready s → s.offered = some t → decode t = .instr i →
    s.candidates = [.host] → SequencerTurn s → step s = exec i s.passMove) ∧
  (∀ (s : State) (t : Txn) (i : Instr) (rest : List Input), Ready s → s.offered = some t → decode t = .instr i →
    .host ∈ s.candidates → s.inputs = atOnce (.run .host) :: rest → step s = exec i (s.withInputs rest)) ∧
  (∀ (s : State) (w : Nat) (i : Instr), s.cfg.legal = true → decodeTableWord 13 w = some i →
    step (s.withFetchWord 13 w) = exec i ((s.withFetchWord 13 w).withInputs s.inputs))

/-- A reserved transaction is refused when it is taken (R203, R304). (Log entry 22.) -/
def Obligations.ReservedRefused : Prop :=
  ∀ (s : State) (t : Txn), Ready s → s.offered = some t →
    ((fieldW t = true ∧ 6 ≤ (fieldA t).toNat) ∨
      (fieldW t = false ∧ (fieldA t).toNat ∈ [1, 2, 3, 5, 13, 14, 15])) →
    (s.candidates = [.host] → SequencerTurn s → step s = .refused .reservedAccess) ∧
    (∀ rest, .host ∈ s.candidates → s.inputs = atOnce (.run .host) :: rest → step s = .refused .reservedAccess)

/-- Exactly the configurations outside R11's ranges are refused, by every step and every instruction (R11, R601). -/
def Obligations.IllegalConfigRefused : Prop :=
  (∀ c : Config, c.legal = true ↔
    (1 ≤ c.timeoutSec ∧ c.timeoutSec ≤ 255) ∧
    (∃ n, n ≤ 6 ∧ c.scanSamples = 2 ^ n ∧ c.sampleShift = n) ∧
    (1 ≤ c.calSamples ∧ c.calSamples ≤ 64) ∧ c.threshold ≤ 65535 ∧
    (1 ≤ c.touchDebounce ∧ c.touchDebounce ≤ 16) ∧ c.baselineShift ≤ 15 ∧
    (1 ≤ c.adcBits ∧ c.adcBits ≤ 10) ∧
    (∀ x y z, c.priority = .order x y z → ∀ src : Source, src = x ∨ src = y ∨ src = z)) ∧
  (∀ s : State, step s = .refused .illegalConfig ↔ s.cfg.legal = false) ∧
  (∀ (i : Instr) (s : State), exec i s = .refused .illegalConfig ↔ s.cfg.legal = false)

/-- A transaction offered before phase RUN waits, and is taken by the dispatch step in RUN (R715, R620); a transaction issued
while the sequencer cannot take it is offered, and nothing else happens (R320, R630). That the step which takes it is the
whole of `exec i` is the model's choice (log entry 5), as are the counted delay of the coming events (log entry 2) and what
`exec` does when the transaction cannot be taken (log entry 13). -/
def Obligations.TransactionWaits : Prop :=
  (∀ (s u : State) (t : Txn), s.phase ≠ .run → s.offered = some t → step s = .next u → u.offered = some t) ∧
  (∀ (s : State) (t : Txn) (i : Instr), Ready s → s.offered = some t → decode t = .instr i →
    s.candidates = [.host] → SequencerTurn s → step s = exec i s.passMove) ∧
  (∀ (i : Instr) (s : State), s.cfg.legal = true → (s.phase ≠ .run ∨ s.isBusy = true) →
    exec i s = .next { s with offered := some (encode i) })

/-! ## The LED driver -/

/-- `LED.ASSIGN d` (R410): its word, `TRANSFER(d)` with its one latch event when the peripheral completes, and the hold
at T4 while it does not. (Log entries 2, 5, 10, 17.) -/
def Obligations.LedAssignEffect : Prop :=
  ∀ (d : Byte) (s : State), Ready s → SpiIdle s →
    (encode (.ledAssign d) = 0x1000#13 ||| d.setWidth 13 ∧ decode (0x1000#13 ||| d.setWidth 13) = .instr (.ledAssign d)) ∧
    (∀ rest, s.inputs = lazily .spiDone :: rest → Patient rest →
      exec (.ledAssign d) s = .next ((answered .done (transferred d s)).withInputs rest)) ∧
    (s.inputs = [] →
      exec (.ledAssign d) s = .next { s with
        offered := none, seq := .busy (.host (.ledAssign d) (.transfer .t4)), led := d, spiEn := true, spiData := d,
        spiBusy := true })

/-- `LED.SET d` (R411): `TRANSFER(LED | d)`. (Log entries 2, 5, 10, 17.) -/
def Obligations.LedSetEffect : Prop :=
  ∀ (d : Byte) (s : State), Ready s → SpiIdle s →
    (encode (.ledSet d) = 0x1100#13 ||| d.setWidth 13 ∧ decode (0x1100#13 ||| d.setWidth 13) = .instr (.ledSet d)) ∧
    (∀ rest, s.inputs = lazily .spiDone :: rest → Patient rest →
      exec (.ledSet d) s = .next ((answered .done (transferred (s.led ||| d) s)).withInputs rest)) ∧
    (s.inputs = [] →
      exec (.ledSet d) s = .next { s with
        offered := none, seq := .busy (.host (.ledSet d) (.transfer .t4)), led := s.led ||| d, spiEn := true,
        spiData := s.led ||| d, spiBusy := true })

/-- `LED.CLR d` (R412): `TRANSFER(LED & ~d)`. (Log entries 2, 5, 10, 17.) -/
def Obligations.LedClrEffect : Prop :=
  ∀ (d : Byte) (s : State), Ready s → SpiIdle s →
    (encode (.ledClr d) = 0x1200#13 ||| d.setWidth 13 ∧ decode (0x1200#13 ||| d.setWidth 13) = .instr (.ledClr d)) ∧
    (∀ rest, s.inputs = lazily .spiDone :: rest → Patient rest →
      exec (.ledClr d) s = .next ((answered .done (transferred (s.led &&& ~~~d) s)).withInputs rest)) ∧
    (s.inputs = [] →
      exec (.ledClr d) s = .next { s with
        offered := none, seq := .busy (.host (.ledClr d) (.transfer .t4)), led := s.led &&& ~~~d, spiEn := true,
        spiData := s.led &&& ~~~d, spiBusy := true })

/-- `LED.TGL d` (R413): `TRANSFER(LED ^ d)`. (Log entries 2, 5, 10, 17.) -/
def Obligations.LedTglEffect : Prop :=
  ∀ (d : Byte) (s : State), Ready s → SpiIdle s →
    (encode (.ledTgl d) = 0x1300#13 ||| d.setWidth 13 ∧ decode (0x1300#13 ||| d.setWidth 13) = .instr (.ledTgl d)) ∧
    (∀ rest, s.inputs = lazily .spiDone :: rest → Patient rest →
      exec (.ledTgl d) s = .next ((answered .done (transferred (s.led ^^^ d) s)).withInputs rest)) ∧
    (s.inputs = [] →
      exec (.ledTgl d) s = .next { s with
        offered := none, seq := .busy (.host (.ledTgl d) (.transfer .t4)), led := s.led ^^^ d, spiEn := true,
        spiData := s.led ^^^ d, spiBusy := true })

/-- Whatever the environment does meanwhile, an LED write either completes, with `LED`, the stage and the outputs at the
value and exactly one latch event, or is held at T4 for ever with the outputs as they were (R10, R403, R407, R602). What
it does not write stays. (Log entries 2, 5, 17, 20.) -/
def Obligations.LedWriteCompletesOrHangs : Prop :=
  ∀ (i : Instr) (v : Byte) (s : State), Ready s → SpiIdle s → AdcIdle s → ledValue s.led i = some v →
    ∃ t, exec i s = .next t ∧ HostFrame s t ∧ t.mmask = s.mmask ∧ t.latch = (s.latch && t.isBusy) ∧ t.led = v ∧
      ((t.seq = .idle ∧ t.sr = v ∧ t.q = v ∧ SpiIdle t ∧ t.obs = s.obs ++ [.latch v, .done]) ∨
       (t.seq = .busy (.host i (.transfer .t4)) ∧ t.spiTc = false ∧ t.q = s.q ∧ t.obs = s.obs ∧ step t = .next t))

/-- The sequence law (R415): of LED operations executed in order, each transfers the bitwise result of applying it to
the `LED` the one before left, and the outputs take those values in that order. (Log entries 2, 5, 17.) -/
def Obligations.LedSequenceLaw : Prop :=
  ∀ (is : List Instr) (s : State), (∀ i ∈ is, (ledValue 0 i).isSome = true) → Ready s → SpiIdle s →
    s.inputs = List.replicate is.length (lazily .spiDone) →
    ∃ t, execAll is s = .next t ∧ t.led = ledAfter s.led is ∧
      t.obs = s.obs ++ (ledValues s.led is).flatMap (fun v => [.latch v, .done]) ∧
      (is ≠ [] → t.q = t.led)

/-- The serial link sends bit 7 first, and the stage then holds the byte sent (R206, R404). -/
def Obligations.SerialOrder : Prop :=
  ∀ stage v : Byte,
    serialBits v = (List.range 8).map (fun n => v.getLsbD (7 - n)) ∧ shiftByte stage v = v

/-- `SPI_DONE` (R406): enabled only while `SPI_BUSY`, and its effect, in any phase and inside any job. -/
def Obligations.SpiDoneEffect : Prop :=
  ∀ (s : State) (rest : List Input), s.cfg.legal = true → s.inputs = atOnce .spiDone :: rest →
    (s.spiBusy = true →
      step s = .next { s with sr := s.spiData, spiBusy := false, spiTc := true, inputs := rest }) ∧
    (s.spiBusy = false → SequencerTurn s)

/-- A job held at T4 or S7 makes no further step while no completion comes (R20, R407, R488). (Log entry 20.) -/
def Obligations.HangStaysPut : Prop :=
  ∀ (s : State) (j : Job), s.cfg.legal = true → s.phase ≠ .reset → s.seq = .busy j → s.inputs = [] →
    ((∃ i, j = .host i (.transfer .t4)) ∨ j = .motion (.transfer .t4) ∨ j = .tick (.transfer .t4) ∨
      j = .scan (.transfer .t4) → s.spiTc = false → step s = .next s) ∧
    (j = .scan (.filter (.shot .s7)) ∨ j = .cal (.filter (.shot .s7)) → s.adcResRdy = false → step s = .next s)

/-! ## The strip policy -/

/-- `MMASK.EN d` and `MMASK.DIS d` (R420, R421, R423): whatever the environment does meanwhile they complete, write only
`MMASK` and produce no latch event; with nothing meanwhile this is the whole effect. (Log entries 2, 5, 10, 17.) -/
def Obligations.MaskWriteEffect : Prop :=
  ∀ (i : Instr) (v : Byte) (s : State), Ready s → SpiIdle s → AdcIdle s → maskValue s.mmask i = some v →
    (∃ t, exec i s = .next t ∧ t.seq = .idle ∧ t.mmask = v ∧ t.obs = s.obs ++ [.done] ∧ HostFrame s t ∧ LedFrame s t) ∧
    (Patient s.inputs → exec i s = .next (answered .done { s with mmask := v }))

/-- `MMASK` changes only at the reset step and by `MMASK.EN` and `MMASK.DIS` (R103), each executed as one step (log entry 5)
or at its own statement. -/
def Obligations.MaskWrittenOnlyByHost : Prop :=
  ∀ s t : State, step s = .next t → t.mmask ≠ s.mmask →
    s.phase = .reset ∨
    (∃ i s', plan s = .execute i s' ∧ maskValue s'.mmask i = some t.mmask) ∨
    (∃ i, s.seq = .busy (.host i .body) ∧ maskValue s.mmask i = some t.mmask)

/-! ## Reads -/

/-- The reads but `RD.FLAGS` (R414, R422, R470, R520 to R524; R210): whatever the environment does meanwhile they
complete, respond with the register's byte, and change no register. (Log entries 2, 5, 10, 17.) -/
def Obligations.ReadEffect : Prop :=
  ∀ (i : Instr) (b : Byte) (s : State), Ready s → SpiIdle s → AdcIdle s → readValue s i = some b →
    (∃ t, exec i s = .next t ∧ t.seq = .idle ∧ t.mmask = s.mmask ∧ t.obs = s.obs ++ [.response b] ∧ HostFrame s t ∧
      LedFrame s t) ∧
    (Patient s.inputs → exec i s = .next (answered (.response b) s))

/-- `RD.TSTAT` (R520): its word, and its response: bit 0 is `TSTATE`, bits 3:1 read 0, bits 7:4 are `TDEB`, below
`TOUCH_DEBOUNCE` in every state of a run. -/
def Obligations.TstatLayout : Prop :=
  decode 0x0700#13 = .instr .rdTstat ∧
  ∀ s : State, Ready s → SpiIdle s → AdcIdle s →
    ∃ (t : State) (b : Byte), exec .rdTstat s = .next t ∧ t.obs = s.obs ++ [.response b] ∧
      b.getLsbD 0 = s.tstate ∧ b.extractLsb' 1 3 = 0#3 ∧ b.extractLsb' 4 4 = s.tdeb ∧
      (Inv s → (b.extractLsb' 4 4).toNat ≤ s.cfg.touchDebounce - 1)

/-- `RD.FLAGS` (R540): it completes, clears no flag, and its bits are the flags as they are when it responds, with bit 3
set since it runs in phase RUN. (Log entries 2, 5, 10, 17.) -/
def Obligations.FlagsRead : Prop :=
  ∀ s : State, Ready s → SpiIdle s → AdcIdle s →
    (∃ (t : State) (b : Byte), exec .rdFlags s = .next t ∧ t.seq = .idle ∧ t.mmask = s.mmask ∧
      t.obs = s.obs ++ [.response b] ∧ HostFrame s t ∧ LedFrame s t ∧
      b.getLsbD 0 = t.motionPend ∧ b.getLsbD 1 = t.tickPend ∧ b.getLsbD 2 = t.scanPend ∧ b.getLsbD 3 = true ∧
      b.extractLsb' 4 4 = 0#4) ∧
    (Patient s.inputs → exec .rdFlags s = .next (answered (.response s.flagsByte) s))

/-- The 16-bit registers are shown as byte pairs, little-endian (R205): the reads of the even addresses 0x8 and 0xA, whatever
`D` is, are those of the low bytes, the reads of the next addresses 0x9 and 0xB those of the high bytes, and the two
responses make up the register. -/
def Obligations.HalfReadAsBytePair : Prop :=
  (∀ d : Byte,
    decode (word false 0x8 d) = .instr .rdTsamplel ∧ decode (word false 0x9 d) = .instr .rdTsampleh ∧
    decode (word false 0xA d) = .instr .rdTbasel ∧ decode (word false 0xB d) = .instr .rdTbaseh) ∧
  ∀ s : State, Ready s → Patient s.inputs →
    (∃ (t : State) (lo hi : Byte), execAll [.rdTsamplel, .rdTsampleh] s = .next t ∧
      t.obs = s.obs ++ [.response lo, .response hi] ∧ hi ++ lo = s.tsample) ∧
    (∃ (t : State) (lo hi : Byte), execAll [.rdTbasel, .rdTbaseh] s = .next t ∧
      t.obs = s.obs ++ [.response lo, .response hi] ∧ hi ++ lo = s.tbase)

/-- A torn read (R730, R222): one run of the machine in which the host offers `RD.TBASEL` and `RD.TBASEH` and the dispatch
step lets a pending scan service run between them. The responses are 0xFF and 0x01, and `TBASE` holds 0x00FF or 0x0100 in
every state of the run, so never the 0x01FF that the pair reads. (Log entries 2, 5, 17.) -/
def Obligations.TornReadPossible : Prop :=
  ∃ (s low t idle u high w : State) (n : Nat),
    Inv s ∧ Ready s ∧ s.tbase = 0x00FF#16 ∧
    Leads s low ∧ (∃ x, plan low = .execute .rdTbasel x) ∧ step low = .next t ∧ t.obs = s.obs ++ [.response 0xFF] ∧
    Leads t idle ∧ idle.scanPend = true ∧ step idle = .next u ∧ idle.isBusy = false ∧ u.seq = .busy (.scan .c0) ∧
    Leads u high ∧ (∃ x, plan high = .execute .rdTbaseh x) ∧ step high = .next w ∧
    w.obs = s.obs ++ [.response 0xFF, .response 0x01] ∧ w.tbase = 0x0100#16 ∧
    core.run n s = .next w ∧
    ∀ m, m ≤ n → ∀ x : State, core.run m s = .next x → x.tbase = 0x00FF#16 ∨ x.tbase = 0x0100#16

/-! ## The motion source -/

/-- `PIN(l)` (R610, R440): at any time the pin takes the level, and a 1 to 0 change outside phase RESET sets
`MOTION_PEND`; nothing else changes. -/
def Obligations.PinEffect : Prop :=
  ∀ (l : Bool) (s : State) (rest : List Input), s.cfg.legal = true → s.inputs = atOnce (.pin l) :: rest →
    step s = .next { s with
      motionN := l, inputs := rest,
      motionPend := s.motionPend || (s.motionN && !l && (s.phase == .cal || s.phase == .run)) }

/-- `MOTION_SVC` (R443, R444, R445): it transfers `LED | MMASK` whatever `LED` is, sets `COUNT` to `TIMEOUT_SEC`, clears its
flag, and leaves the strips outside `MMASK`. (Log entries 2, 10, 12.) -/
def Obligations.MotionServiceEffect : Prop :=
  ∀ (s : State) (rest : List Input), Running (.motion .m0) s → SpiIdle s →
    s.inputs = lazily .spiDone :: rest → Patient rest →
    ∃ t, t = (released { transferred (s.led ||| s.mmask) s with
        count := BitVec.ofNat 8 s.cfg.timeoutSec, motionPend := false }).withInputs rest ∧
      Leads s t ∧ t.led &&& ~~~s.mmask = s.led &&& ~~~s.mmask ∧ timeoutView t ≠ .idle

/-- A falling edge during the motion service (R447): kept with `ENTRY`, lost with `EXIT`. (Log entries 2, 10, 12.) -/
def Obligations.EdgeDuringMotionService : Prop :=
  ∀ (s : State) (rest : List Input), Running (.motion .m0) s → SpiIdle s →
    s.inputs = lazily (.pin true) :: lazily (.pin false) :: lazily .spiDone :: rest → Patient rest →
    Leads s ((released { transferred (s.led ||| s.mmask) s with
      count := BitVec.ofNat 8 s.cfg.timeoutSec, motionN := false,
      motionPend := decide (s.cfg.flagClearAt = .entry) }).withInputs rest)

/-! ## The timeout scheduler -/

/-- `TICK` and `SCAN` (R460, R480, R720): they set their flag in phase RUN, a flag already set stays set (R121), and outside
RUN they do not happen and no step sets either flag. -/
def Obligations.TickSourcesOnlyInRun : Prop :=
  (∀ (s : State) (rest : List Input), s.cfg.legal = true → s.phase = .run →
    (s.inputs = atOnce .tick :: rest → step s = .next { s with tickPend := true, inputs := rest }) ∧
    (s.inputs = atOnce .scan :: rest → step s = .next { s with scanPend := true, inputs := rest })) ∧
  (∀ (s : State) (rest : List Input), s.phase ≠ .run →
    s.inputs = atOnce .tick :: rest ∨ s.inputs = atOnce .scan :: rest → SequencerTurn s) ∧
  (∀ s t : State, s.phase ≠ .run → step s = .next t →
    (t.tickPend = true → s.tickPend = true) ∧ (t.scanPend = true → s.scanPend = true))

/-- `TICK_SVC` without expiry (R463, R464, R465, R467, R468): an active sensor re-arms `COUNT`; an inactive one counts it
down; no transfer happens, and nothing else changes but the flag. (Log entries 2, 10, 12.) -/
def Obligations.TickServiceCounts : Prop :=
  ∀ s : State, Running (.tick .k0) s → Patient s.inputs → ¬ (s.motionN = true ∧ s.count = 1#8) →
    ∃ t, t = released { s with
        tickPend := false, count := BitVec.ofNat 8 (tickCount s.cfg.timeoutSec s.count.toNat s.motionN) } ∧
      Leads s t ∧ (s.motionN = false → t.count.toNat = s.cfg.timeoutSec ∧ timeoutView t = .held) ∧
      (s.motionN = true → t.count.toNat = s.count.toNat - 1)

/-- `TICK_SVC` at expiry (R463, R466): the sensor inactive and `COUNT` = 1, it transfers `LED & ~MMASK` with one latch
event, even if no bit changes, and leaves the strips outside `MMASK`. (Log entries 2, 10, 12.) -/
def Obligations.TickServiceExpires : Prop :=
  ∀ (s : State) (rest : List Input), Running (.tick .k0) s → SpiIdle s → s.motionN = true → s.count = 1#8 →
    s.inputs = lazily .spiDone :: rest → Patient rest →
    ∃ t, t = (released { transferred (s.led &&& ~~~s.mmask) s with count := 0#8, tickPend := false }).withInputs rest ∧
      Leads s t ∧ t.led &&& s.mmask = 0#8 ∧ t.led &&& ~~~s.mmask = s.led &&& ~~~s.mmask ∧ timeoutView t = .idle

/-- `COUNT` reaches 0 only at statement K4 of a tick service, and only when `TIMEOUT_SEC` consecutive tick services, that one
the last, have read the sensor inactive since the statement that set `COUNT` to `TIMEOUT_SEC` (R471): on every run of the
machine from such a statement, M2 or K2, whatever happens on it. The second clause is the same law of the function that
`TickServiceCounts` and `TickServiceExpires` leave in `COUNT`. (Log entry 12: K1 is one move.) -/
def Obligations.TimeoutNeedsInactiveTicks : Prop :=
  (∀ (k n : Nat) (s t u : State), s.phase = .run → s.seq = .busy (.motion .m2) ∨ s.seq = .busy (.tick .k2) →
    countedRun k s 0 = some (t, n) → step t = .next u → t.count ≠ 0#8 → u.count = 0#8 →
    n = s.cfg.timeoutSec ∧ t.seq = .busy (.tick .k4) ∧ u.seq = .busy (.tick .k5)) ∧
  (∀ (timeout : Nat) (levels : List Bool), 1 ≤ timeout → levels.foldl (tickCount timeout) timeout = 0 →
    timeout ≤ levels.length ∧ ∀ l ∈ levels.drop (levels.length - timeout), l = true)

/-- The document's property (R472, D36): with every strip motion-enabled, one motion trigger and then `TIMEOUT_SEC` served
ticks with the sensor inactive give all on once, no latch event for `TIMEOUT_SEC` - 1 ticks, and all off at the last. -/
def Obligations.MotionThenTimeout : Prop :=
  ∀ (s : State) (rest : List Input), Ready s → SpiIdle s → s.offered = none → s.mmask = 0xFF#8 → s.motionN = true →
    s.motionPend = false → s.tickPend = false → s.scanPend = false →
    s.inputs = [lazily (.pin false), lazily .spiDone, lazily (.pin true)] ++ servedTicks (s.cfg.timeoutSec - 1) ++
      (servedTicks 1 ++ lazily .spiDone :: rest) → Patient rest →
    ∃ t u, Leads s t ∧ t.inputs = servedTicks 1 ++ lazily .spiDone :: rest ∧ t.obs = s.obs ++ [.latch 0xFF#8] ∧
      t.q = 0xFF#8 ∧ t.led = 0xFF#8 ∧ t.count = 1#8 ∧
      Leads t u ∧ u.inputs = rest ∧ u.obs = t.obs ++ [.latch 0x00#8] ∧ u.q = 0x00#8 ∧ u.led = 0x00#8 ∧ u.count = 0#8

/-! ## The touch sensor -/

/-- `CLASSIFY` (R492, R493): touched exactly when the sample is above the baseline by at least `THRESHOLD`. -/
def Obligations.ClassifyBoundary : Prop :=
  (∀ (c : Config) (sample base : Half), classify c sample base = true ↔
    ∃ d, 0 < d ∧ sample.toNat = base.toNat + d ∧ c.threshold ≤ d) ∧
  (∀ c : Config, c.threshold = 20 → classify c 519#16 500#16 = false ∧ classify c 520#16 500#16 = true)

/-- `ADC_DONE(r)` (R487): enabled only while `ADC_BUSY`, and its effect for a result of `ADC_BITS` bits. -/
def Obligations.AdcDoneEffect : Prop :=
  ∀ (s : State) (r : Reading) (rest : List Input), s.cfg.legal = true → s.inputs = atOnce (.adcDone r) :: rest →
    (s.adcBusy = true → r.toNat < 2 ^ s.cfg.adcBits →
      step s = .next { s with adcRes := r, adcBusy := false, adcResRdy := true, inputs := rest }) ∧
    (s.adcBusy = false → SequencerTurn s)

/-- `FILTERED_SAMPLE()` in the scan service (R486, R490): `SCAN_SAMPLES` single shots, and `TSAMPLE` is the floor of their
mean. (Log entries 2, 12.) -/
def Obligations.FilteredSampleMean : Prop :=
  ∀ (rs : List Reading) (s : State) (rest : List Input), Running (.scan (.filter .f1)) s → AdcIdle s →
    rs.length = s.cfg.scanSamples → (∀ r ∈ rs, r.toNat ≤ maxReading s.cfg) →
    s.inputs = conversions rs ++ rest → Patient rest →
    Leads s (({ sampled rs s with seq := .busy (.scan .c2) } : State).withInputs rest)

/-- The scan service after its sample, without a commit (R492, R496, R500, R502): the debounce counter counts a disagreeing
tick or returns to 0, the baseline adapts while released, and the outputs stay. (Log entries 2, 10, 12.) -/
def Obligations.ScanServiceNoCommit : Prop :=
  ∀ (s : State) (tent : Bool), Running (.scan .c2) s → Patient s.inputs →
    tent = classify s.cfg s.tsample s.tbase → (tent = s.tstate ∨ s.tdeb.toNat + 1 < s.cfg.touchDebounce) →
    Leads s (released { s with
      tdeb := if tent = s.tstate then 0#4 else BitVec.ofNat 4 (s.tdeb.toNat + 1),
      tbase := if s.tstate then s.tbase
        else BitVec.ofNat 16 (adapted s.cfg.baselineShift s.tsample.toNat s.tbase.toNat),
      scanPend := s.scanPend && decide (s.cfg.flagClearAt = .entry) })

/-- The scan service at a commit (R496, R497, R502): `TSTATE` flips, the counter returns to 0, one transfer of the commit
byte whatever `MMASK` is, and the baseline adapts only if the commit was a release. (Log entries 2, 10, 12.) -/
def Obligations.ScanServiceCommit : Prop :=
  ∀ (s : State) (tent : Bool) (rest : List Input), Running (.scan .c2) s → SpiIdle s →
    s.inputs = lazily .spiDone :: rest → Patient rest →
    tent = classify s.cfg s.tsample s.tbase → tent ≠ s.tstate → s.cfg.touchDebounce ≤ s.tdeb.toNat + 1 →
    Leads s ((released { transferred (commitByte s.cfg.touchAction tent s.led) s with
      tstate := tent, tdeb := 0#4,
      tbase := if tent then s.tbase
        else BitVec.ofNat 16 (adapted s.cfg.baselineShift s.tsample.toNat s.tbase.toNat),
      scanPend := s.scanPend && decide (s.cfg.flagClearAt = .entry) }).withInputs rest)

/-- The baseline step (R501): between the old baseline and the sample; a dead band below `2 ^ BASELINE_SHIFT`; a copy at
shift 0; and it is what statements A3 and A5 compute. -/
def Obligations.BaselineStepBounded : Prop :=
  (∀ shift sample base : Nat,
    min base sample ≤ adapted shift sample base ∧ adapted shift sample base ≤ max base sample ∧
    (sample < base + 2 ^ shift → base < sample + 2 ^ shift → adapted shift sample base = base) ∧
    adapted 0 sample base = sample) ∧
  (∀ (c : Config) (sample base : Half),
    (base.toNat < sample.toNat →
      (baselineUp c sample base).toNat = adapted c.baselineShift sample.toNat base.toNat) ∧
    (sample.toNat < base.toNat →
      (baselineDown c sample base).toNat = adapted c.baselineShift sample.toNat base.toNat)) ∧
  adapted 7 628 500 = 501 ∧ adapted 7 627 500 = 500 ∧ adapted 7 372 500 = 499

/-- "Baseline adaptation never occurs while `TouchState = true`" (R503): in phase RUN a step changes `TBASE` only while
released, and only toward the sample, without overshooting it (R500, R501): up to at most `TSAMPLE`, or down to at least
`TSAMPLE`, so a baseline equal to the sample stays. -/
def Obligations.BaselineFrozenWhileTouched : Prop :=
  ∀ s t : State, Inv s → s.phase = .run → step s = .next t → t.tbase ≠ s.tbase →
    s.tstate = false ∧ t.tstate = false ∧ t.tsample = s.tsample ∧
    ((s.tbase.toNat < t.tbase.toNat ∧ t.tbase.toNat ≤ s.tsample.toNat) ∨
      (t.tbase.toNat < s.tbase.toNat ∧ s.tsample.toNat ≤ t.tbase.toNat)) ∧
    (s.tbase.toNat < s.tsample.toNat → s.tbase.toNat ≤ t.tbase.toNat) ∧
    (s.tsample.toNat < s.tbase.toNat → t.tbase.toNat ≤ s.tbase.toNat)

/-- `CAL_JOB` (R511, R713): `CAL_SAMPLES` filtered samples seed `TBASE` with the floor of their mean, `TSTATE` and `TDEB` are
cleared, and the block enters RUN with no job; nothing else a host can read changes but `TSAMPLE`. (Log entries 2, 12.) -/
def Obligations.CalibrationSeedsBaseline : Prop :=
  ∀ (rss : List (List Reading)) (s : State) (rest : List Input), s.cfg.legal = true → s.phase = .cal →
    s.seq = .busy (.cal .l1) → AdcIdle s → rss.length = s.cfg.calSamples →
    (∀ rs ∈ rss, rs.length = s.cfg.scanSamples ∧ ∀ r ∈ rs, r.toNat ≤ maxReading s.cfg) →
    s.inputs = conversions rss.flatten ++ rest → Patient rest →
    ∃ t, Leads s t ∧ t.phase = .run ∧ t.seq = .idle ∧ t.inputs = rest ∧ t.tbase.toNat = seeded rss ∧
      t.tsample.toNat = filtered (rss.getLastD []) ∧ t.tstate = false ∧ t.tdeb = 0#4 ∧
      t.led = s.led ∧ t.mmask = s.mmask ∧ t.count = s.count ∧ t.q = s.q ∧ t.obs = s.obs ∧
      t.motionPend = s.motionPend ∧ t.tickPend = s.tickPend ∧ t.scanPend = s.scanPend

/-- `SCAN_SVC` "never reads or writes `MMASK`, `COUNT` or `MOTION_N`" (R491): none of its statements writes them. -/
def Obligations.ScanServiceLeavesMotionState : Prop :=
  ∀ (s t : State) (p : ScanPos), s.phase ≠ .reset → s.seq = .busy (.scan p) → step s = .next t →
    t.mmask = s.mmask ∧ t.count = s.count ∧ (SequencerTurn s → t.motionN = s.motionN)

/-! ## Dispatch, jobs, flags and phases -/

/-- Starting a service (R620, R621, R622): as the only candidate or as the prescribed choice, `SEQ`, `JOB` and `STEP` change,
and nothing is saved or masked. (Log entries 2, 3.) -/
def Obligations.DispatchStartsService : Prop :=
  ∀ (s : State) (src : Source), Ready s →
    (s.candidates = [.service src] → SequencerTurn s →
      step s = .next { s.passMove with seq := .busy (serviceEntry src) }) ∧
    (∀ rest, .service src ∈ s.candidates → s.inputs = atOnce (.run (.service src)) :: rest →
      step s = .next { s with seq := .busy (serviceEntry src), inputs := rest })

/-- The candidates (R620, R624): with `ANY` every pending service and the offered transaction; with a total order only
the highest pending source, and the transaction only when no flag is pending. What is no candidate is not chosen. -/
def Obligations.PriorityChoosesCandidates : Prop :=
  (∀ s : State, s.cfg.priority = .any →
    (∀ src, .service src ∈ s.candidates ↔ s.pending src = true) ∧
    (.host ∈ s.candidates ↔ s.offered.isSome = true)) ∧
  (∀ (s : State) (x y z : Source), s.cfg.priority = .order x y z →
    s.candidates =
      if s.pending x then [.service x] else if s.pending y then [.service y] else if s.pending z then [.service z]
      else if s.offered.isSome then [.host] else []) ∧
  (∀ (s : State) (p : Pick) (rest : List Input), p ∉ s.candidates → s.inputs = atOnce (.run p) :: rest →
    SequencerTurn s)

/-- With several candidates and no prescribed choice, the sequencer starts one of them, whichever the free value names
(R624); log entry 4. -/
def Obligations.FreeChoiceIsACandidate : Prop :=
  ∀ s : State, Ready s → SequencerTurn s → 2 ≤ s.candidates.length →
    ∃ p ∈ s.candidates, plan s = dispatch p { s.passMove with draws := s.draws + 1 }

/-- One job at a time (R630, R632): while a job is in progress a step leaves the same job in progress or none. -/
def Obligations.OneJobAtATime : Prop :=
  ∀ (s t : State) (j : Job), s.phase ≠ .reset → s.seq = .busy j → step s = .next t →
    t.seq = .idle ∨ ∃ j', t.seq = .busy j' ∧ SameJob j j'

/-- A pending flag is cleared only by its own service, at its first statement with `ENTRY` and at M3, K7 or C5 with `EXIT`
(R614), and there it is cleared; no host transaction and no other service clears one. -/
def Obligations.FlagClearedOnlyByItsService : Prop :=
  (∀ (s t : State) (src : Source), s.phase ≠ .reset → step s = .next t → s.pending src = true → t.pending src = false →
    (s.cfg.flagClearAt = .entry ∧ s.seq = .busy (serviceEntry src)) ∨
    (s.cfg.flagClearAt = .exit ∧ s.seq = .busy (exitClear src))) ∧
  (∀ (s : State) (src : Source), s.cfg.legal = true → s.phase ≠ .reset → SequencerTurn s →
    (s.cfg.flagClearAt = .entry ∧ s.seq = .busy (serviceEntry src)) ∨
    (s.cfg.flagClearAt = .exit ∧ s.seq = .busy (exitClear src)) →
    ∃ t, step s = .next t ∧ t.pending src = false)

/-- `LED` is written only inside `TRANSFER` (R102): a step changes it only at the reset step, at a job's T1, or by
executing one of the four LED operations, each one step (log entry 5). `Q`, `SR` and `LATCH` are the next statement's. -/
def Obligations.LedWrittenOnlyByTransfer : Prop :=
  ∀ s t : State, step s = .next t → t.led ≠ s.led →
    s.phase = .reset ∨
    (∃ j, s.seq = .busy j ∧ transferStart t.led j) ∨
    (∃ i s', plan s = .execute i s' ∧ ledValue s'.led i = some t.led)

/-- `Q`, `SR` and `LATCH` are written only inside `TRANSFER` (R408, R404, R405, R406). A step changes `Q` only at T6 of a job or by
executing one of the four LED operations, and it then appends the latch event with the new `Q`; it changes `SR` only by
`SPI_DONE`, as itself or inside such an operation; and `LATCH`, which T6 raises and lowers in one step, is the same after
every step. (Log entry 5: an LED operation is one step; log entry 17: the observation.) -/
def Obligations.OutputsWrittenOnlyByTransfer : Prop :=
  ∀ s t : State, Inv s → step s = .next t →
    t.latch = s.latch ∧
    (t.q ≠ s.q →
      (∃ j, s.seq = .busy j ∧ latching j ∧ t.q = s.sr ∧ t.obs = s.obs ++ [.latch t.q]) ∨
      (∃ i s', plan s = .execute i s' ∧ ledValue s'.led i = some t.q ∧ t.obs = s.obs ++ [.latch t.q, .done])) ∧
    (t.sr ≠ s.sr →
      (s.spiBusy = true ∧ t.sr = s.spiData ∧ ∃ s', s.nextEvent = some (.spiDone, s')) ∨
      (∃ i s', plan s = .execute i s' ∧ ledValue s'.led i = some t.sr))

/-- `COUNT` is written only by the motion and tick services, at M2, K2 and K4 (R104), and by the reset step. -/
def Obligations.CountWrittenOnlyByServices : Prop :=
  ∀ s t : State, step s = .next t → t.count ≠ s.count →
    s.phase = .reset ∨
    ((s.seq = .busy (.motion .m2) ∨ s.seq = .busy (.tick .k2)) ∧ t.count = BitVec.ofNat 8 s.cfg.timeoutSec) ∨
    (s.seq = .busy (.tick .k4) ∧ t.count = s.count - 1#8)

/-- The phases pass in order and never go back (R710): RESET is left by the reset step to CAL with `CAL_JOB` at L1, CAL
only by statement L7, and RUN never. -/
def Obligations.PhaseNeverGoesBack : Prop :=
  ∀ s t : State, step s = .next t →
    phaseRank s.phase ≤ phaseRank t.phase ∧
    (s.phase = .reset → t.phase ≠ s.phase → t.phase = .cal ∧ t.seq = .busy (.cal .l1)) ∧
    (s.phase = .cal → t.phase ≠ s.phase → s.seq = .busy (.cal .l7) ∧ t.phase = .run ∧ t.seq = .idle)

/-- Sleep (R650, R651, R652): with nothing pending and nothing offered the sequencer sleeps and changes nothing else; a
candidate is taken from `SLEEP` exactly as from `IDLE`. (Log entry 16.) -/
def Obligations.SleepIsUnobservable : Prop :=
  (∀ s : State, Ready s → SequencerTurn s → s.candidates = [] → step s = .next { s.passMove with seq := .sleep }) ∧
  (∀ s : State, s.cfg.legal = true → s.phase = .run → s.seq = .sleep → SequencerTurn s → s.candidates ≠ [] →
    step s = step { s with seq := .idle })

/-- The observation only grows (R24), and the parameters never change (R11; that they stand in State is the model's
choice, log entry 1). -/
def Obligations.ObservationGrows : Prop :=
  ∀ s t : State, step s = .next t → t.cfg = s.cfg ∧ ∃ more, t.obs = s.obs ++ more

/-! ## Boot and the invariant -/

/-- Power-up to RUN (R700, R711, R712, R713): for every legal configuration, every draw of the stage, the outputs and the
sensor, and every calibration reading, the block reaches RUN with `LED` 0, `MMASK` = `MOTION_MASK_INIT`, `COUNT` 0, no flag
pending, the baseline seeded, and the outputs still as drawn. (Log entries 2, 11, 12.) -/
def Obligations.BootReachesRun : Prop :=
  ∀ (c : Config) (srDraw qDraw : Byte) (pinDraw : Bool) (rss : List (List Reading)) (rest : List Input),
    c.legal = true → rss.length = c.calSamples →
    (∀ rs ∈ rss, rs.length = c.scanSamples ∧ ∀ r ∈ rs, r.toNat ≤ maxReading c) → Patient rest →
    ∃ t, Leads ((State.powerUp c srDraw qDraw pinDraw).withInputs (conversions rss.flatten ++ rest)) t ∧
      t.phase = .run ∧ t.seq = .idle ∧ t.inputs = rest ∧ t.cfg = c ∧ t.led = 0x00#8 ∧ t.mmask = c.motionMaskInit ∧
      t.count = 0#8 ∧ t.tstate = false ∧ t.tdeb = 0#4 ∧ t.motionPend = false ∧ t.tickPend = false ∧
      t.scanPend = false ∧ t.tbase.toNat = seeded rss ∧ t.q = qDraw ∧ t.sr = srDraw ∧ t.motionN = pinDraw ∧ t.obs = []

/-- The invariant holds at power-up for every legal configuration and every draw, with any coming events, and so at reset.
That the registers the spec gives no value hold 0 there is the model's choice (log entries 8, 9). -/
def Obligations.InvariantAtPowerUp : Prop :=
  (∀ (c : Config) (srDraw qDraw : Byte) (pinDraw : Bool) (l : List Input), c.legal = true →
    Inv ((State.powerUp c srDraw qDraw pinDraw).withInputs l)) ∧
  Inv State.reset

/-- Every step keeps the invariant: the legal ranges of `COUNT`, `TSAMPLE`, `TBASE`, `ADC_RES` and `TDEB` (R104, R105, R106, R108,
R133), the accumulators' bounds (R14), `Q` = `LED` and the serial peripheral disabled between jobs (R409, R653), and the
phases (R710, R712). -/
def Obligations.EveryStepKeepsInvariant : Prop :=
  ∀ s t : State, Inv s → step s = .next t → Inv t
end

