-- ==== Sys2Proof/Laws/State.lean ====
section
/-! SUPPORT. One lemma per field per update, each true by `rfl`, so that no proof unfolds a record update; and what the
operations that branch leave alone. -/

namespace Sys2Proof.Machine

/-! ## `goto` -/

@[simp] theorem State.goto_cfg (j : Job) (s : State) : (s.goto j).cfg = s.cfg := rfl
@[simp] theorem State.goto_phase (j : Job) (s : State) : (s.goto j).phase = s.phase := rfl
@[simp] theorem State.goto_seq (j : Job) (s : State) : (s.goto j).seq = .busy j := rfl
@[simp] theorem State.goto_led (j : Job) (s : State) : (s.goto j).led = s.led := rfl
@[simp] theorem State.goto_mmask (j : Job) (s : State) : (s.goto j).mmask = s.mmask := rfl
@[simp] theorem State.goto_count (j : Job) (s : State) : (s.goto j).count = s.count := rfl
@[simp] theorem State.goto_tsample (j : Job) (s : State) : (s.goto j).tsample = s.tsample := rfl
@[simp] theorem State.goto_tbase (j : Job) (s : State) : (s.goto j).tbase = s.tbase := rfl
@[simp] theorem State.goto_tstate (j : Job) (s : State) : (s.goto j).tstate = s.tstate := rfl
@[simp] theorem State.goto_tdeb (j : Job) (s : State) : (s.goto j).tdeb = s.tdeb := rfl
@[simp] theorem State.goto_motionPend (j : Job) (s : State) : (s.goto j).motionPend = s.motionPend := rfl
@[simp] theorem State.goto_tickPend (j : Job) (s : State) : (s.goto j).tickPend = s.tickPend := rfl
@[simp] theorem State.goto_scanPend (j : Job) (s : State) : (s.goto j).scanPend = s.scanPend := rfl
@[simp] theorem State.goto_spiEn (j : Job) (s : State) : (s.goto j).spiEn = s.spiEn := rfl
@[simp] theorem State.goto_spiBusy (j : Job) (s : State) : (s.goto j).spiBusy = s.spiBusy := rfl
@[simp] theorem State.goto_spiTc (j : Job) (s : State) : (s.goto j).spiTc = s.spiTc := rfl
@[simp] theorem State.goto_spiData (j : Job) (s : State) : (s.goto j).spiData = s.spiData := rfl
@[simp] theorem State.goto_sr (j : Job) (s : State) : (s.goto j).sr = s.sr := rfl
@[simp] theorem State.goto_q (j : Job) (s : State) : (s.goto j).q = s.q := rfl
@[simp] theorem State.goto_latch (j : Job) (s : State) : (s.goto j).latch = s.latch := rfl
@[simp] theorem State.goto_adcMux (j : Job) (s : State) : (s.goto j).adcMux = s.adcMux := rfl
@[simp] theorem State.goto_adcBusy (j : Job) (s : State) : (s.goto j).adcBusy = s.adcBusy := rfl
@[simp] theorem State.goto_adcResRdy (j : Job) (s : State) : (s.goto j).adcResRdy = s.adcResRdy := rfl
@[simp] theorem State.goto_adcRes (j : Job) (s : State) : (s.goto j).adcRes = s.adcRes := rfl
@[simp] theorem State.goto_padMode (j : Job) (s : State) : (s.goto j).padMode = s.padMode := rfl
@[simp] theorem State.goto_motionN (j : Job) (s : State) : (s.goto j).motionN = s.motionN := rfl
@[simp] theorem State.goto_acc (j : Job) (s : State) : (s.goto j).acc = s.acc := rfl
@[simp] theorem State.goto_k (j : Job) (s : State) : (s.goto j).k = s.k := rfl
@[simp] theorem State.goto_cacc (j : Job) (s : State) : (s.goto j).cacc = s.cacc := rfl
@[simp] theorem State.goto_j (j : Job) (s : State) : (s.goto j).j = s.j := rfl
@[simp] theorem State.goto_tent (j : Job) (s : State) : (s.goto j).tent = s.tent := rfl
@[simp] theorem State.goto_offered (j : Job) (s : State) : (s.goto j).offered = s.offered := rfl
@[simp] theorem State.goto_obs (j : Job) (s : State) : (s.goto j).obs = s.obs := rfl
@[simp] theorem State.goto_inputs (j : Job) (s : State) : (s.goto j).inputs = s.inputs := rfl
@[simp] theorem State.goto_draws (j : Job) (s : State) : (s.goto j).draws = s.draws := rfl

/-! ## `endJob` -/

@[simp] theorem State.endJob_cfg (s : State) : s.endJob.cfg = s.cfg := rfl
@[simp] theorem State.endJob_phase (s : State) : s.endJob.phase = s.phase := rfl
@[simp] theorem State.endJob_seq (s : State) : s.endJob.seq = .idle := rfl
@[simp] theorem State.endJob_led (s : State) : s.endJob.led = s.led := rfl
@[simp] theorem State.endJob_mmask (s : State) : s.endJob.mmask = s.mmask := rfl
@[simp] theorem State.endJob_count (s : State) : s.endJob.count = s.count := rfl
@[simp] theorem State.endJob_tsample (s : State) : s.endJob.tsample = s.tsample := rfl
@[simp] theorem State.endJob_tbase (s : State) : s.endJob.tbase = s.tbase := rfl
@[simp] theorem State.endJob_tstate (s : State) : s.endJob.tstate = s.tstate := rfl
@[simp] theorem State.endJob_tdeb (s : State) : s.endJob.tdeb = s.tdeb := rfl
@[simp] theorem State.endJob_motionPend (s : State) : s.endJob.motionPend = s.motionPend := rfl
@[simp] theorem State.endJob_tickPend (s : State) : s.endJob.tickPend = s.tickPend := rfl
@[simp] theorem State.endJob_scanPend (s : State) : s.endJob.scanPend = s.scanPend := rfl
@[simp] theorem State.endJob_spiEn (s : State) : s.endJob.spiEn = s.spiEn := rfl
@[simp] theorem State.endJob_spiBusy (s : State) : s.endJob.spiBusy = s.spiBusy := rfl
@[simp] theorem State.endJob_spiTc (s : State) : s.endJob.spiTc = s.spiTc := rfl
@[simp] theorem State.endJob_spiData (s : State) : s.endJob.spiData = s.spiData := rfl
@[simp] theorem State.endJob_sr (s : State) : s.endJob.sr = s.sr := rfl
@[simp] theorem State.endJob_q (s : State) : s.endJob.q = s.q := rfl
@[simp] theorem State.endJob_latch (s : State) : s.endJob.latch = s.latch := rfl
@[simp] theorem State.endJob_adcMux (s : State) : s.endJob.adcMux = s.adcMux := rfl
@[simp] theorem State.endJob_adcBusy (s : State) : s.endJob.adcBusy = s.adcBusy := rfl
@[simp] theorem State.endJob_adcResRdy (s : State) : s.endJob.adcResRdy = s.adcResRdy := rfl
@[simp] theorem State.endJob_adcRes (s : State) : s.endJob.adcRes = s.adcRes := rfl
@[simp] theorem State.endJob_padMode (s : State) : s.endJob.padMode = s.padMode := rfl
@[simp] theorem State.endJob_motionN (s : State) : s.endJob.motionN = s.motionN := rfl
@[simp] theorem State.endJob_acc (s : State) : s.endJob.acc = 0#16 := rfl
@[simp] theorem State.endJob_k (s : State) : s.endJob.k = 0 := rfl
@[simp] theorem State.endJob_cacc (s : State) : s.endJob.cacc = 0#16 := rfl
@[simp] theorem State.endJob_j (s : State) : s.endJob.j = 0 := rfl
@[simp] theorem State.endJob_tent (s : State) : s.endJob.tent = false := rfl
@[simp] theorem State.endJob_offered (s : State) : s.endJob.offered = s.offered := rfl
@[simp] theorem State.endJob_obs (s : State) : s.endJob.obs = s.obs := rfl
@[simp] theorem State.endJob_inputs (s : State) : s.endJob.inputs = s.inputs := rfl
@[simp] theorem State.endJob_draws (s : State) : s.endJob.draws = s.draws := rfl

/-! ## `observe` -/

@[simp] theorem State.observe_cfg (o : Obs) (s : State) : (s.observe o).cfg = s.cfg := rfl
@[simp] theorem State.observe_phase (o : Obs) (s : State) : (s.observe o).phase = s.phase := rfl
@[simp] theorem State.observe_seq (o : Obs) (s : State) : (s.observe o).seq = s.seq := rfl
@[simp] theorem State.observe_led (o : Obs) (s : State) : (s.observe o).led = s.led := rfl
@[simp] theorem State.observe_mmask (o : Obs) (s : State) : (s.observe o).mmask = s.mmask := rfl
@[simp] theorem State.observe_count (o : Obs) (s : State) : (s.observe o).count = s.count := rfl
@[simp] theorem State.observe_tsample (o : Obs) (s : State) : (s.observe o).tsample = s.tsample := rfl
@[simp] theorem State.observe_tbase (o : Obs) (s : State) : (s.observe o).tbase = s.tbase := rfl
@[simp] theorem State.observe_tstate (o : Obs) (s : State) : (s.observe o).tstate = s.tstate := rfl
@[simp] theorem State.observe_tdeb (o : Obs) (s : State) : (s.observe o).tdeb = s.tdeb := rfl
@[simp] theorem State.observe_motionPend (o : Obs) (s : State) : (s.observe o).motionPend = s.motionPend := rfl
@[simp] theorem State.observe_tickPend (o : Obs) (s : State) : (s.observe o).tickPend = s.tickPend := rfl
@[simp] theorem State.observe_scanPend (o : Obs) (s : State) : (s.observe o).scanPend = s.scanPend := rfl
@[simp] theorem State.observe_spiEn (o : Obs) (s : State) : (s.observe o).spiEn = s.spiEn := rfl
@[simp] theorem State.observe_spiBusy (o : Obs) (s : State) : (s.observe o).spiBusy = s.spiBusy := rfl
@[simp] theorem State.observe_spiTc (o : Obs) (s : State) : (s.observe o).spiTc = s.spiTc := rfl
@[simp] theorem State.observe_spiData (o : Obs) (s : State) : (s.observe o).spiData = s.spiData := rfl
@[simp] theorem State.observe_sr (o : Obs) (s : State) : (s.observe o).sr = s.sr := rfl
@[simp] theorem State.observe_q (o : Obs) (s : State) : (s.observe o).q = s.q := rfl
@[simp] theorem State.observe_latch (o : Obs) (s : State) : (s.observe o).latch = s.latch := rfl
@[simp] theorem State.observe_adcMux (o : Obs) (s : State) : (s.observe o).adcMux = s.adcMux := rfl
@[simp] theorem State.observe_adcBusy (o : Obs) (s : State) : (s.observe o).adcBusy = s.adcBusy := rfl
@[simp] theorem State.observe_adcResRdy (o : Obs) (s : State) : (s.observe o).adcResRdy = s.adcResRdy := rfl
@[simp] theorem State.observe_adcRes (o : Obs) (s : State) : (s.observe o).adcRes = s.adcRes := rfl
@[simp] theorem State.observe_padMode (o : Obs) (s : State) : (s.observe o).padMode = s.padMode := rfl
@[simp] theorem State.observe_motionN (o : Obs) (s : State) : (s.observe o).motionN = s.motionN := rfl
@[simp] theorem State.observe_acc (o : Obs) (s : State) : (s.observe o).acc = s.acc := rfl
@[simp] theorem State.observe_k (o : Obs) (s : State) : (s.observe o).k = s.k := rfl
@[simp] theorem State.observe_cacc (o : Obs) (s : State) : (s.observe o).cacc = s.cacc := rfl
@[simp] theorem State.observe_j (o : Obs) (s : State) : (s.observe o).j = s.j := rfl
@[simp] theorem State.observe_tent (o : Obs) (s : State) : (s.observe o).tent = s.tent := rfl
@[simp] theorem State.observe_offered (o : Obs) (s : State) : (s.observe o).offered = s.offered := rfl
@[simp] theorem State.observe_obs (o : Obs) (s : State) : (s.observe o).obs = s.obs ++ [o] := rfl
@[simp] theorem State.observe_inputs (o : Obs) (s : State) : (s.observe o).inputs = s.inputs := rfl
@[simp] theorem State.observe_draws (o : Obs) (s : State) : (s.observe o).draws = s.draws := rfl

/-! ## `startHost` -/

@[simp] theorem State.startHost_cfg (i : Instr) (s : State) : (s.startHost i).cfg = s.cfg := rfl
@[simp] theorem State.startHost_phase (i : Instr) (s : State) : (s.startHost i).phase = s.phase := rfl
@[simp] theorem State.startHost_seq (i : Instr) (s : State) : (s.startHost i).seq = .busy (.host i .body) := rfl
@[simp] theorem State.startHost_led (i : Instr) (s : State) : (s.startHost i).led = s.led := rfl
@[simp] theorem State.startHost_mmask (i : Instr) (s : State) : (s.startHost i).mmask = s.mmask := rfl
@[simp] theorem State.startHost_count (i : Instr) (s : State) : (s.startHost i).count = s.count := rfl
@[simp] theorem State.startHost_tsample (i : Instr) (s : State) : (s.startHost i).tsample = s.tsample := rfl
@[simp] theorem State.startHost_tbase (i : Instr) (s : State) : (s.startHost i).tbase = s.tbase := rfl
@[simp] theorem State.startHost_tstate (i : Instr) (s : State) : (s.startHost i).tstate = s.tstate := rfl
@[simp] theorem State.startHost_tdeb (i : Instr) (s : State) : (s.startHost i).tdeb = s.tdeb := rfl
@[simp] theorem State.startHost_motionPend (i : Instr) (s : State) : (s.startHost i).motionPend = s.motionPend := rfl
@[simp] theorem State.startHost_tickPend (i : Instr) (s : State) : (s.startHost i).tickPend = s.tickPend := rfl
@[simp] theorem State.startHost_scanPend (i : Instr) (s : State) : (s.startHost i).scanPend = s.scanPend := rfl
@[simp] theorem State.startHost_spiEn (i : Instr) (s : State) : (s.startHost i).spiEn = s.spiEn := rfl
@[simp] theorem State.startHost_spiBusy (i : Instr) (s : State) : (s.startHost i).spiBusy = s.spiBusy := rfl
@[simp] theorem State.startHost_spiTc (i : Instr) (s : State) : (s.startHost i).spiTc = s.spiTc := rfl
@[simp] theorem State.startHost_spiData (i : Instr) (s : State) : (s.startHost i).spiData = s.spiData := rfl
@[simp] theorem State.startHost_sr (i : Instr) (s : State) : (s.startHost i).sr = s.sr := rfl
@[simp] theorem State.startHost_q (i : Instr) (s : State) : (s.startHost i).q = s.q := rfl
@[simp] theorem State.startHost_latch (i : Instr) (s : State) : (s.startHost i).latch = s.latch := rfl
@[simp] theorem State.startHost_adcMux (i : Instr) (s : State) : (s.startHost i).adcMux = s.adcMux := rfl
@[simp] theorem State.startHost_adcBusy (i : Instr) (s : State) : (s.startHost i).adcBusy = s.adcBusy := rfl
@[simp] theorem State.startHost_adcResRdy (i : Instr) (s : State) : (s.startHost i).adcResRdy = s.adcResRdy := rfl
@[simp] theorem State.startHost_adcRes (i : Instr) (s : State) : (s.startHost i).adcRes = s.adcRes := rfl
@[simp] theorem State.startHost_padMode (i : Instr) (s : State) : (s.startHost i).padMode = s.padMode := rfl
@[simp] theorem State.startHost_motionN (i : Instr) (s : State) : (s.startHost i).motionN = s.motionN := rfl
@[simp] theorem State.startHost_acc (i : Instr) (s : State) : (s.startHost i).acc = s.acc := rfl
@[simp] theorem State.startHost_k (i : Instr) (s : State) : (s.startHost i).k = s.k := rfl
@[simp] theorem State.startHost_cacc (i : Instr) (s : State) : (s.startHost i).cacc = s.cacc := rfl
@[simp] theorem State.startHost_j (i : Instr) (s : State) : (s.startHost i).j = s.j := rfl
@[simp] theorem State.startHost_tent (i : Instr) (s : State) : (s.startHost i).tent = s.tent := rfl
@[simp] theorem State.startHost_offered (i : Instr) (s : State) : (s.startHost i).offered = none := rfl
@[simp] theorem State.startHost_obs (i : Instr) (s : State) : (s.startHost i).obs = s.obs := rfl
@[simp] theorem State.startHost_inputs (i : Instr) (s : State) : (s.startHost i).inputs = s.inputs := rfl
@[simp] theorem State.startHost_draws (i : Instr) (s : State) : (s.startHost i).draws = s.draws := rfl

/-! ## `startService` -/

@[simp] theorem State.startService_cfg (src : Source) (s : State) : (s.startService src).cfg = s.cfg := rfl
@[simp] theorem State.startService_phase (src : Source) (s : State) : (s.startService src).phase = s.phase := rfl
@[simp] theorem State.startService_seq (src : Source) (s : State) : (s.startService src).seq = .busy (serviceEntry src) := rfl
@[simp] theorem State.startService_led (src : Source) (s : State) : (s.startService src).led = s.led := rfl
@[simp] theorem State.startService_mmask (src : Source) (s : State) : (s.startService src).mmask = s.mmask := rfl
@[simp] theorem State.startService_count (src : Source) (s : State) : (s.startService src).count = s.count := rfl
@[simp] theorem State.startService_tsample (src : Source) (s : State) : (s.startService src).tsample = s.tsample := rfl
@[simp] theorem State.startService_tbase (src : Source) (s : State) : (s.startService src).tbase = s.tbase := rfl
@[simp] theorem State.startService_tstate (src : Source) (s : State) : (s.startService src).tstate = s.tstate := rfl
@[simp] theorem State.startService_tdeb (src : Source) (s : State) : (s.startService src).tdeb = s.tdeb := rfl
@[simp] theorem State.startService_motionPend (src : Source) (s : State) : (s.startService src).motionPend = s.motionPend := rfl
@[simp] theorem State.startService_tickPend (src : Source) (s : State) : (s.startService src).tickPend = s.tickPend := rfl
@[simp] theorem State.startService_scanPend (src : Source) (s : State) : (s.startService src).scanPend = s.scanPend := rfl
@[simp] theorem State.startService_spiEn (src : Source) (s : State) : (s.startService src).spiEn = s.spiEn := rfl
@[simp] theorem State.startService_spiBusy (src : Source) (s : State) : (s.startService src).spiBusy = s.spiBusy := rfl
@[simp] theorem State.startService_spiTc (src : Source) (s : State) : (s.startService src).spiTc = s.spiTc := rfl
@[simp] theorem State.startService_spiData (src : Source) (s : State) : (s.startService src).spiData = s.spiData := rfl
@[simp] theorem State.startService_sr (src : Source) (s : State) : (s.startService src).sr = s.sr := rfl
@[simp] theorem State.startService_q (src : Source) (s : State) : (s.startService src).q = s.q := rfl
@[simp] theorem State.startService_latch (src : Source) (s : State) : (s.startService src).latch = s.latch := rfl
@[simp] theorem State.startService_adcMux (src : Source) (s : State) : (s.startService src).adcMux = s.adcMux := rfl
@[simp] theorem State.startService_adcBusy (src : Source) (s : State) : (s.startService src).adcBusy = s.adcBusy := rfl
@[simp] theorem State.startService_adcResRdy (src : Source) (s : State) : (s.startService src).adcResRdy = s.adcResRdy := rfl
@[simp] theorem State.startService_adcRes (src : Source) (s : State) : (s.startService src).adcRes = s.adcRes := rfl
@[simp] theorem State.startService_padMode (src : Source) (s : State) : (s.startService src).padMode = s.padMode := rfl
@[simp] theorem State.startService_motionN (src : Source) (s : State) : (s.startService src).motionN = s.motionN := rfl
@[simp] theorem State.startService_acc (src : Source) (s : State) : (s.startService src).acc = s.acc := rfl
@[simp] theorem State.startService_k (src : Source) (s : State) : (s.startService src).k = s.k := rfl
@[simp] theorem State.startService_cacc (src : Source) (s : State) : (s.startService src).cacc = s.cacc := rfl
@[simp] theorem State.startService_j (src : Source) (s : State) : (s.startService src).j = s.j := rfl
@[simp] theorem State.startService_tent (src : Source) (s : State) : (s.startService src).tent = s.tent := rfl
@[simp] theorem State.startService_offered (src : Source) (s : State) : (s.startService src).offered = s.offered := rfl
@[simp] theorem State.startService_obs (src : Source) (s : State) : (s.startService src).obs = s.obs := rfl
@[simp] theorem State.startService_inputs (src : Source) (s : State) : (s.startService src).inputs = s.inputs := rfl
@[simp] theorem State.startService_draws (src : Source) (s : State) : (s.startService src).draws = s.draws := rfl

/-! ## `setPending` -/

@[simp] theorem State.setPending_cfg (src : Source) (s : State) : (s.setPending src).cfg = s.cfg := by
  cases src <;> rfl
@[simp] theorem State.setPending_phase (src : Source) (s : State) : (s.setPending src).phase = s.phase := by
  cases src <;> rfl
@[simp] theorem State.setPending_seq (src : Source) (s : State) : (s.setPending src).seq = s.seq := by
  cases src <;> rfl
@[simp] theorem State.setPending_led (src : Source) (s : State) : (s.setPending src).led = s.led := by
  cases src <;> rfl
@[simp] theorem State.setPending_mmask (src : Source) (s : State) : (s.setPending src).mmask = s.mmask := by
  cases src <;> rfl
@[simp] theorem State.setPending_count (src : Source) (s : State) : (s.setPending src).count = s.count := by
  cases src <;> rfl
@[simp] theorem State.setPending_tsample (src : Source) (s : State) : (s.setPending src).tsample = s.tsample := by
  cases src <;> rfl
@[simp] theorem State.setPending_tbase (src : Source) (s : State) : (s.setPending src).tbase = s.tbase := by
  cases src <;> rfl
@[simp] theorem State.setPending_tstate (src : Source) (s : State) : (s.setPending src).tstate = s.tstate := by
  cases src <;> rfl
@[simp] theorem State.setPending_tdeb (src : Source) (s : State) : (s.setPending src).tdeb = s.tdeb := by
  cases src <;> rfl
@[simp] theorem State.setPending_spiEn (src : Source) (s : State) : (s.setPending src).spiEn = s.spiEn := by
  cases src <;> rfl
@[simp] theorem State.setPending_spiBusy (src : Source) (s : State) : (s.setPending src).spiBusy = s.spiBusy := by
  cases src <;> rfl
@[simp] theorem State.setPending_spiTc (src : Source) (s : State) : (s.setPending src).spiTc = s.spiTc := by
  cases src <;> rfl
@[simp] theorem State.setPending_spiData (src : Source) (s : State) : (s.setPending src).spiData = s.spiData := by
  cases src <;> rfl
@[simp] theorem State.setPending_sr (src : Source) (s : State) : (s.setPending src).sr = s.sr := by
  cases src <;> rfl
@[simp] theorem State.setPending_q (src : Source) (s : State) : (s.setPending src).q = s.q := by
  cases src <;> rfl
@[simp] theorem State.setPending_latch (src : Source) (s : State) : (s.setPending src).latch = s.latch := by
  cases src <;> rfl
@[simp] theorem State.setPending_adcMux (src : Source) (s : State) : (s.setPending src).adcMux = s.adcMux := by
  cases src <;> rfl
@[simp] theorem State.setPending_adcBusy (src : Source) (s : State) : (s.setPending src).adcBusy = s.adcBusy := by
  cases src <;> rfl
@[simp] theorem State.setPending_adcResRdy (src : Source) (s : State) : (s.setPending src).adcResRdy = s.adcResRdy := by
  cases src <;> rfl
@[simp] theorem State.setPending_adcRes (src : Source) (s : State) : (s.setPending src).adcRes = s.adcRes := by
  cases src <;> rfl
@[simp] theorem State.setPending_padMode (src : Source) (s : State) : (s.setPending src).padMode = s.padMode := by
  cases src <;> rfl
@[simp] theorem State.setPending_motionN (src : Source) (s : State) : (s.setPending src).motionN = s.motionN := by
  cases src <;> rfl
@[simp] theorem State.setPending_acc (src : Source) (s : State) : (s.setPending src).acc = s.acc := by
  cases src <;> rfl
@[simp] theorem State.setPending_k (src : Source) (s : State) : (s.setPending src).k = s.k := by
  cases src <;> rfl
@[simp] theorem State.setPending_cacc (src : Source) (s : State) : (s.setPending src).cacc = s.cacc := by
  cases src <;> rfl
@[simp] theorem State.setPending_j (src : Source) (s : State) : (s.setPending src).j = s.j := by
  cases src <;> rfl
@[simp] theorem State.setPending_tent (src : Source) (s : State) : (s.setPending src).tent = s.tent := by
  cases src <;> rfl
@[simp] theorem State.setPending_offered (src : Source) (s : State) : (s.setPending src).offered = s.offered := by
  cases src <;> rfl
@[simp] theorem State.setPending_obs (src : Source) (s : State) : (s.setPending src).obs = s.obs := by
  cases src <;> rfl
@[simp] theorem State.setPending_inputs (src : Source) (s : State) : (s.setPending src).inputs = s.inputs := by
  cases src <;> rfl
@[simp] theorem State.setPending_draws (src : Source) (s : State) : (s.setPending src).draws = s.draws := by
  cases src <;> rfl

/-! ## `clearPending` -/

@[simp] theorem State.clearPending_cfg (src : Source) (s : State) : (s.clearPending src).cfg = s.cfg := by
  cases src <;> rfl
@[simp] theorem State.clearPending_phase (src : Source) (s : State) : (s.clearPending src).phase = s.phase := by
  cases src <;> rfl
@[simp] theorem State.clearPending_seq (src : Source) (s : State) : (s.clearPending src).seq = s.seq := by
  cases src <;> rfl
@[simp] theorem State.clearPending_led (src : Source) (s : State) : (s.clearPending src).led = s.led := by
  cases src <;> rfl
@[simp] theorem State.clearPending_mmask (src : Source) (s : State) : (s.clearPending src).mmask = s.mmask := by
  cases src <;> rfl
@[simp] theorem State.clearPending_count (src : Source) (s : State) : (s.clearPending src).count = s.count := by
  cases src <;> rfl
@[simp] theorem State.clearPending_tsample (src : Source) (s : State) : (s.clearPending src).tsample = s.tsample := by
  cases src <;> rfl
@[simp] theorem State.clearPending_tbase (src : Source) (s : State) : (s.clearPending src).tbase = s.tbase := by
  cases src <;> rfl
@[simp] theorem State.clearPending_tstate (src : Source) (s : State) : (s.clearPending src).tstate = s.tstate := by
  cases src <;> rfl
@[simp] theorem State.clearPending_tdeb (src : Source) (s : State) : (s.clearPending src).tdeb = s.tdeb := by
  cases src <;> rfl
@[simp] theorem State.clearPending_spiEn (src : Source) (s : State) : (s.clearPending src).spiEn = s.spiEn := by
  cases src <;> rfl
@[simp] theorem State.clearPending_spiBusy (src : Source) (s : State) : (s.clearPending src).spiBusy = s.spiBusy := by
  cases src <;> rfl
@[simp] theorem State.clearPending_spiTc (src : Source) (s : State) : (s.clearPending src).spiTc = s.spiTc := by
  cases src <;> rfl
@[simp] theorem State.clearPending_spiData (src : Source) (s : State) : (s.clearPending src).spiData = s.spiData := by
  cases src <;> rfl
@[simp] theorem State.clearPending_sr (src : Source) (s : State) : (s.clearPending src).sr = s.sr := by
  cases src <;> rfl
@[simp] theorem State.clearPending_q (src : Source) (s : State) : (s.clearPending src).q = s.q := by
  cases src <;> rfl
@[simp] theorem State.clearPending_latch (src : Source) (s : State) : (s.clearPending src).latch = s.latch := by
  cases src <;> rfl
@[simp] theorem State.clearPending_adcMux (src : Source) (s : State) : (s.clearPending src).adcMux = s.adcMux := by
  cases src <;> rfl
@[simp] theorem State.clearPending_adcBusy (src : Source) (s : State) : (s.clearPending src).adcBusy = s.adcBusy := by
  cases src <;> rfl
@[simp] theorem State.clearPending_adcResRdy (src : Source) (s : State) : (s.clearPending src).adcResRdy = s.adcResRdy := by
  cases src <;> rfl
@[simp] theorem State.clearPending_adcRes (src : Source) (s : State) : (s.clearPending src).adcRes = s.adcRes := by
  cases src <;> rfl
@[simp] theorem State.clearPending_padMode (src : Source) (s : State) : (s.clearPending src).padMode = s.padMode := by
  cases src <;> rfl
@[simp] theorem State.clearPending_motionN (src : Source) (s : State) : (s.clearPending src).motionN = s.motionN := by
  cases src <;> rfl
@[simp] theorem State.clearPending_acc (src : Source) (s : State) : (s.clearPending src).acc = s.acc := by
  cases src <;> rfl
@[simp] theorem State.clearPending_k (src : Source) (s : State) : (s.clearPending src).k = s.k := by
  cases src <;> rfl
@[simp] theorem State.clearPending_cacc (src : Source) (s : State) : (s.clearPending src).cacc = s.cacc := by
  cases src <;> rfl
@[simp] theorem State.clearPending_j (src : Source) (s : State) : (s.clearPending src).j = s.j := by
  cases src <;> rfl
@[simp] theorem State.clearPending_tent (src : Source) (s : State) : (s.clearPending src).tent = s.tent := by
  cases src <;> rfl
@[simp] theorem State.clearPending_offered (src : Source) (s : State) : (s.clearPending src).offered = s.offered := by
  cases src <;> rfl
@[simp] theorem State.clearPending_obs (src : Source) (s : State) : (s.clearPending src).obs = s.obs := by
  cases src <;> rfl
@[simp] theorem State.clearPending_inputs (src : Source) (s : State) : (s.clearPending src).inputs = s.inputs := by
  cases src <;> rfl
@[simp] theorem State.clearPending_draws (src : Source) (s : State) : (s.clearPending src).draws = s.draws := by
  cases src <;> rfl

/-! ## `clearAtEntry` -/

@[simp] theorem State.clearAtEntry_cfg (src : Source) (s : State) : (s.clearAtEntry src).cfg = s.cfg := by
  unfold State.clearAtEntry; split <;> simp
@[simp] theorem State.clearAtEntry_phase (src : Source) (s : State) : (s.clearAtEntry src).phase = s.phase := by
  unfold State.clearAtEntry; split <;> simp
@[simp] theorem State.clearAtEntry_seq (src : Source) (s : State) : (s.clearAtEntry src).seq = s.seq := by
  unfold State.clearAtEntry; split <;> simp
@[simp] theorem State.clearAtEntry_led (src : Source) (s : State) : (s.clearAtEntry src).led = s.led := by
  unfold State.clearAtEntry; split <;> simp
@[simp] theorem State.clearAtEntry_mmask (src : Source) (s : State) : (s.clearAtEntry src).mmask = s.mmask := by
  unfold State.clearAtEntry; split <;> simp
@[simp] theorem State.clearAtEntry_count (src : Source) (s : State) : (s.clearAtEntry src).count = s.count := by
  unfold State.clearAtEntry; split <;> simp
@[simp] theorem State.clearAtEntry_tsample (src : Source) (s : State) : (s.clearAtEntry src).tsample = s.tsample := by
  unfold State.clearAtEntry; split <;> simp
@[simp] theorem State.clearAtEntry_tbase (src : Source) (s : State) : (s.clearAtEntry src).tbase = s.tbase := by
  unfold State.clearAtEntry; split <;> simp
@[simp] theorem State.clearAtEntry_tstate (src : Source) (s : State) : (s.clearAtEntry src).tstate = s.tstate := by
  unfold State.clearAtEntry; split <;> simp
@[simp] theorem State.clearAtEntry_tdeb (src : Source) (s : State) : (s.clearAtEntry src).tdeb = s.tdeb := by
  unfold State.clearAtEntry; split <;> simp
@[simp] theorem State.clearAtEntry_spiEn (src : Source) (s : State) : (s.clearAtEntry src).spiEn = s.spiEn := by
  unfold State.clearAtEntry; split <;> simp
@[simp] theorem State.clearAtEntry_spiBusy (src : Source) (s : State) : (s.clearAtEntry src).spiBusy = s.spiBusy := by
  unfold State.clearAtEntry; split <;> simp
@[simp] theorem State.clearAtEntry_spiTc (src : Source) (s : State) : (s.clearAtEntry src).spiTc = s.spiTc := by
  unfold State.clearAtEntry; split <;> simp
@[simp] theorem State.clearAtEntry_spiData (src : Source) (s : State) : (s.clearAtEntry src).spiData = s.spiData := by
  unfold State.clearAtEntry; split <;> simp
@[simp] theorem State.clearAtEntry_sr (src : Source) (s : State) : (s.clearAtEntry src).sr = s.sr := by
  unfold State.clearAtEntry; split <;> simp
@[simp] theorem State.clearAtEntry_q (src : Source) (s : State) : (s.clearAtEntry src).q = s.q := by
  unfold State.clearAtEntry; split <;> simp
@[simp] theorem State.clearAtEntry_latch (src : Source) (s : State) : (s.clearAtEntry src).latch = s.latch := by
  unfold State.clearAtEntry; split <;> simp
@[simp] theorem State.clearAtEntry_adcMux (src : Source) (s : State) : (s.clearAtEntry src).adcMux = s.adcMux := by
  unfold State.clearAtEntry; split <;> simp
@[simp] theorem State.clearAtEntry_adcBusy (src : Source) (s : State) : (s.clearAtEntry src).adcBusy = s.adcBusy := by
  unfold State.clearAtEntry; split <;> simp
@[simp] theorem State.clearAtEntry_adcResRdy (src : Source) (s : State) : (s.clearAtEntry src).adcResRdy = s.adcResRdy := by
  unfold State.clearAtEntry; split <;> simp
@[simp] theorem State.clearAtEntry_adcRes (src : Source) (s : State) : (s.clearAtEntry src).adcRes = s.adcRes := by
  unfold State.clearAtEntry; split <;> simp
@[simp] theorem State.clearAtEntry_padMode (src : Source) (s : State) : (s.clearAtEntry src).padMode = s.padMode := by
  unfold State.clearAtEntry; split <;> simp
@[simp] theorem State.clearAtEntry_motionN (src : Source) (s : State) : (s.clearAtEntry src).motionN = s.motionN := by
  unfold State.clearAtEntry; split <;> simp
@[simp] theorem State.clearAtEntry_acc (src : Source) (s : State) : (s.clearAtEntry src).acc = s.acc := by
  unfold State.clearAtEntry; split <;> simp
@[simp] theorem State.clearAtEntry_k (src : Source) (s : State) : (s.clearAtEntry src).k = s.k := by
  unfold State.clearAtEntry; split <;> simp
@[simp] theorem State.clearAtEntry_cacc (src : Source) (s : State) : (s.clearAtEntry src).cacc = s.cacc := by
  unfold State.clearAtEntry; split <;> simp
@[simp] theorem State.clearAtEntry_j (src : Source) (s : State) : (s.clearAtEntry src).j = s.j := by
  unfold State.clearAtEntry; split <;> simp
@[simp] theorem State.clearAtEntry_tent (src : Source) (s : State) : (s.clearAtEntry src).tent = s.tent := by
  unfold State.clearAtEntry; split <;> simp
@[simp] theorem State.clearAtEntry_offered (src : Source) (s : State) : (s.clearAtEntry src).offered = s.offered := by
  unfold State.clearAtEntry; split <;> simp
@[simp] theorem State.clearAtEntry_obs (src : Source) (s : State) : (s.clearAtEntry src).obs = s.obs := by
  unfold State.clearAtEntry; split <;> simp
@[simp] theorem State.clearAtEntry_inputs (src : Source) (s : State) : (s.clearAtEntry src).inputs = s.inputs := by
  unfold State.clearAtEntry; split <;> simp
@[simp] theorem State.clearAtEntry_draws (src : Source) (s : State) : (s.clearAtEntry src).draws = s.draws := by
  unfold State.clearAtEntry; split <;> simp

/-! ## `clearAtExit` -/

@[simp] theorem State.clearAtExit_cfg (src : Source) (s : State) : (s.clearAtExit src).cfg = s.cfg := by
  unfold State.clearAtExit; split <;> simp
@[simp] theorem State.clearAtExit_phase (src : Source) (s : State) : (s.clearAtExit src).phase = s.phase := by
  unfold State.clearAtExit; split <;> simp
@[simp] theorem State.clearAtExit_seq (src : Source) (s : State) : (s.clearAtExit src).seq = s.seq := by
  unfold State.clearAtExit; split <;> simp
@[simp] theorem State.clearAtExit_led (src : Source) (s : State) : (s.clearAtExit src).led = s.led := by
  unfold State.clearAtExit; split <;> simp
@[simp] theorem State.clearAtExit_mmask (src : Source) (s : State) : (s.clearAtExit src).mmask = s.mmask := by
  unfold State.clearAtExit; split <;> simp
@[simp] theorem State.clearAtExit_count (src : Source) (s : State) : (s.clearAtExit src).count = s.count := by
  unfold State.clearAtExit; split <;> simp
@[simp] theorem State.clearAtExit_tsample (src : Source) (s : State) : (s.clearAtExit src).tsample = s.tsample := by
  unfold State.clearAtExit; split <;> simp
@[simp] theorem State.clearAtExit_tbase (src : Source) (s : State) : (s.clearAtExit src).tbase = s.tbase := by
  unfold State.clearAtExit; split <;> simp
@[simp] theorem State.clearAtExit_tstate (src : Source) (s : State) : (s.clearAtExit src).tstate = s.tstate := by
  unfold State.clearAtExit; split <;> simp
@[simp] theorem State.clearAtExit_tdeb (src : Source) (s : State) : (s.clearAtExit src).tdeb = s.tdeb := by
  unfold State.clearAtExit; split <;> simp
@[simp] theorem State.clearAtExit_spiEn (src : Source) (s : State) : (s.clearAtExit src).spiEn = s.spiEn := by
  unfold State.clearAtExit; split <;> simp
@[simp] theorem State.clearAtExit_spiBusy (src : Source) (s : State) : (s.clearAtExit src).spiBusy = s.spiBusy := by
  unfold State.clearAtExit; split <;> simp
@[simp] theorem State.clearAtExit_spiTc (src : Source) (s : State) : (s.clearAtExit src).spiTc = s.spiTc := by
  unfold State.clearAtExit; split <;> simp
@[simp] theorem State.clearAtExit_spiData (src : Source) (s : State) : (s.clearAtExit src).spiData = s.spiData := by
  unfold State.clearAtExit; split <;> simp
@[simp] theorem State.clearAtExit_sr (src : Source) (s : State) : (s.clearAtExit src).sr = s.sr := by
  unfold State.clearAtExit; split <;> simp
@[simp] theorem State.clearAtExit_q (src : Source) (s : State) : (s.clearAtExit src).q = s.q := by
  unfold State.clearAtExit; split <;> simp
@[simp] theorem State.clearAtExit_latch (src : Source) (s : State) : (s.clearAtExit src).latch = s.latch := by
  unfold State.clearAtExit; split <;> simp
@[simp] theorem State.clearAtExit_adcMux (src : Source) (s : State) : (s.clearAtExit src).adcMux = s.adcMux := by
  unfold State.clearAtExit; split <;> simp
@[simp] theorem State.clearAtExit_adcBusy (src : Source) (s : State) : (s.clearAtExit src).adcBusy = s.adcBusy := by
  unfold State.clearAtExit; split <;> simp
@[simp] theorem State.clearAtExit_adcResRdy (src : Source) (s : State) : (s.clearAtExit src).adcResRdy = s.adcResRdy := by
  unfold State.clearAtExit; split <;> simp
@[simp] theorem State.clearAtExit_adcRes (src : Source) (s : State) : (s.clearAtExit src).adcRes = s.adcRes := by
  unfold State.clearAtExit; split <;> simp
@[simp] theorem State.clearAtExit_padMode (src : Source) (s : State) : (s.clearAtExit src).padMode = s.padMode := by
  unfold State.clearAtExit; split <;> simp
@[simp] theorem State.clearAtExit_motionN (src : Source) (s : State) : (s.clearAtExit src).motionN = s.motionN := by
  unfold State.clearAtExit; split <;> simp
@[simp] theorem State.clearAtExit_acc (src : Source) (s : State) : (s.clearAtExit src).acc = s.acc := by
  unfold State.clearAtExit; split <;> simp
@[simp] theorem State.clearAtExit_k (src : Source) (s : State) : (s.clearAtExit src).k = s.k := by
  unfold State.clearAtExit; split <;> simp
@[simp] theorem State.clearAtExit_cacc (src : Source) (s : State) : (s.clearAtExit src).cacc = s.cacc := by
  unfold State.clearAtExit; split <;> simp
@[simp] theorem State.clearAtExit_j (src : Source) (s : State) : (s.clearAtExit src).j = s.j := by
  unfold State.clearAtExit; split <;> simp
@[simp] theorem State.clearAtExit_tent (src : Source) (s : State) : (s.clearAtExit src).tent = s.tent := by
  unfold State.clearAtExit; split <;> simp
@[simp] theorem State.clearAtExit_offered (src : Source) (s : State) : (s.clearAtExit src).offered = s.offered := by
  unfold State.clearAtExit; split <;> simp
@[simp] theorem State.clearAtExit_obs (src : Source) (s : State) : (s.clearAtExit src).obs = s.obs := by
  unfold State.clearAtExit; split <;> simp
@[simp] theorem State.clearAtExit_inputs (src : Source) (s : State) : (s.clearAtExit src).inputs = s.inputs := by
  unfold State.clearAtExit; split <;> simp
@[simp] theorem State.clearAtExit_draws (src : Source) (s : State) : (s.clearAtExit src).draws = s.draws := by
  unfold State.clearAtExit; split <;> simp

/-! ## `passMove` -/

@[simp] theorem State.passMove_cfg (s : State) : s.passMove.cfg = s.cfg := by
  unfold State.passMove; split <;> rfl
@[simp] theorem State.passMove_phase (s : State) : s.passMove.phase = s.phase := by
  unfold State.passMove; split <;> rfl
@[simp] theorem State.passMove_seq (s : State) : s.passMove.seq = s.seq := by
  unfold State.passMove; split <;> rfl
@[simp] theorem State.passMove_led (s : State) : s.passMove.led = s.led := by
  unfold State.passMove; split <;> rfl
@[simp] theorem State.passMove_mmask (s : State) : s.passMove.mmask = s.mmask := by
  unfold State.passMove; split <;> rfl
@[simp] theorem State.passMove_count (s : State) : s.passMove.count = s.count := by
  unfold State.passMove; split <;> rfl
@[simp] theorem State.passMove_tsample (s : State) : s.passMove.tsample = s.tsample := by
  unfold State.passMove; split <;> rfl
@[simp] theorem State.passMove_tbase (s : State) : s.passMove.tbase = s.tbase := by
  unfold State.passMove; split <;> rfl
@[simp] theorem State.passMove_tstate (s : State) : s.passMove.tstate = s.tstate := by
  unfold State.passMove; split <;> rfl
@[simp] theorem State.passMove_tdeb (s : State) : s.passMove.tdeb = s.tdeb := by
  unfold State.passMove; split <;> rfl
@[simp] theorem State.passMove_motionPend (s : State) : s.passMove.motionPend = s.motionPend := by
  unfold State.passMove; split <;> rfl
@[simp] theorem State.passMove_tickPend (s : State) : s.passMove.tickPend = s.tickPend := by
  unfold State.passMove; split <;> rfl
@[simp] theorem State.passMove_scanPend (s : State) : s.passMove.scanPend = s.scanPend := by
  unfold State.passMove; split <;> rfl
@[simp] theorem State.passMove_spiEn (s : State) : s.passMove.spiEn = s.spiEn := by
  unfold State.passMove; split <;> rfl
@[simp] theorem State.passMove_spiBusy (s : State) : s.passMove.spiBusy = s.spiBusy := by
  unfold State.passMove; split <;> rfl
@[simp] theorem State.passMove_spiTc (s : State) : s.passMove.spiTc = s.spiTc := by
  unfold State.passMove; split <;> rfl
@[simp] theorem State.passMove_spiData (s : State) : s.passMove.spiData = s.spiData := by
  unfold State.passMove; split <;> rfl
@[simp] theorem State.passMove_sr (s : State) : s.passMove.sr = s.sr := by
  unfold State.passMove; split <;> rfl
@[simp] theorem State.passMove_q (s : State) : s.passMove.q = s.q := by
  unfold State.passMove; split <;> rfl
@[simp] theorem State.passMove_latch (s : State) : s.passMove.latch = s.latch := by
  unfold State.passMove; split <;> rfl
@[simp] theorem State.passMove_adcMux (s : State) : s.passMove.adcMux = s.adcMux := by
  unfold State.passMove; split <;> rfl
@[simp] theorem State.passMove_adcBusy (s : State) : s.passMove.adcBusy = s.adcBusy := by
  unfold State.passMove; split <;> rfl
@[simp] theorem State.passMove_adcResRdy (s : State) : s.passMove.adcResRdy = s.adcResRdy := by
  unfold State.passMove; split <;> rfl
@[simp] theorem State.passMove_adcRes (s : State) : s.passMove.adcRes = s.adcRes := by
  unfold State.passMove; split <;> rfl
@[simp] theorem State.passMove_padMode (s : State) : s.passMove.padMode = s.padMode := by
  unfold State.passMove; split <;> rfl
@[simp] theorem State.passMove_motionN (s : State) : s.passMove.motionN = s.motionN := by
  unfold State.passMove; split <;> rfl
@[simp] theorem State.passMove_acc (s : State) : s.passMove.acc = s.acc := by
  unfold State.passMove; split <;> rfl
@[simp] theorem State.passMove_k (s : State) : s.passMove.k = s.k := by
  unfold State.passMove; split <;> rfl
@[simp] theorem State.passMove_cacc (s : State) : s.passMove.cacc = s.cacc := by
  unfold State.passMove; split <;> rfl
@[simp] theorem State.passMove_j (s : State) : s.passMove.j = s.j := by
  unfold State.passMove; split <;> rfl
@[simp] theorem State.passMove_tent (s : State) : s.passMove.tent = s.tent := by
  unfold State.passMove; split <;> rfl
@[simp] theorem State.passMove_offered (s : State) : s.passMove.offered = s.offered := by
  unfold State.passMove; split <;> rfl
@[simp] theorem State.passMove_obs (s : State) : s.passMove.obs = s.obs := by
  unfold State.passMove; split <;> rfl
@[simp] theorem State.passMove_draws (s : State) : s.passMove.draws = s.draws := by
  unfold State.passMove; split <;> rfl

/-! ## The flags of the other sources -/

@[simp] theorem State.pending_setPending (src : Source) (s : State) : (s.setPending src).pending src = true := by
  cases src <;> rfl

@[simp] theorem State.pending_clearPending (src : Source) (s : State) : (s.clearPending src).pending src = false := by
  cases src <;> rfl

theorem State.pending_setPending_of_ne {src other : Source} (h : other ≠ src) (s : State) :
    (s.setPending src).pending other = s.pending other := by
  cases src <;> cases other <;> first | rfl | exact absurd rfl h

theorem State.pending_clearPending_of_ne {src other : Source} (h : other ≠ src) (s : State) :
    (s.clearPending src).pending other = s.pending other := by
  cases src <;> cases other <;> first | rfl | exact absurd rfl h

/-- Setting a flag clears none (R121). -/
theorem State.pending_setPending_mono (src other : Source) (s : State) (h : s.pending other = true) :
    (s.setPending src).pending other = true := by
  cases src <;> cases other <;> first | rfl | exact h

end Sys2Proof.Machine
end

