-- ==== Sys2Proof/Laws/Events.lean ====
section
/-! SUPPORT. What the coming events can do: when the first one happens, what firing it changes, and that a sequencer
that is moving is not interrupted by events that wait for it. -/

namespace Sys2Proof.Machine

open Sys2Proof.Safety

/-! ## The first coming event -/

theorem State.nextEvent_nil {s : State} (h : s.inputs = []) : s.nextEvent = none := by
  simp [State.nextEvent, h]

theorem State.passMove_nil {s : State} (h : s.inputs = []) : s.passMove = s := by
  simp [State.passMove, h]

theorem State.passMove_of_patient {s : State} (h : Patient s.inputs) : s.passMove = s := by
  unfold State.passMove
  split
  · rfl
  · next i rest hi =>
    have hd := h i (by simp [hi])
    obtain ⟨due, ev⟩ := i
    cases hd
    simp only [Due.tickDown]
    rw [← hi]

theorem State.nextEvent_of_patient {s : State} (h : Patient s.inputs) (hr : s.atRest = false) :
    s.nextEvent = none := by
  unfold State.nextEvent
  split
  · rfl
  · next i rest hi =>
    have hd := h i (by simp [hi])
    simp [hd, Due.now, hr]

/-- An event that waits for rest happens when the sequencer is at rest and it can happen. -/
theorem State.nextEvent_lazily {s : State} {e : Event} {rest : List Input} (h : s.inputs = lazily e :: rest)
    (hr : s.atRest = true) (he : e.enabled s = true) : s.nextEvent = some (e, { s with inputs := rest }) := by
  simp [State.nextEvent, h, lazily, Due.now, hr, he]

theorem State.nextEvent_atOnce {s : State} {e : Event} {rest : List Input} (h : s.inputs = atOnce e :: rest)
    (he : e.enabled s = true) : s.nextEvent = some (e, { s with inputs := rest }) := by
  simp [State.nextEvent, h, atOnce, Due.now, he]

/-- An event that cannot happen waits (log entry 3). -/
theorem State.nextEvent_not_enabled {s : State} {i : Input} {rest : List Input} (h : s.inputs = i :: rest)
    (he : i.ev.enabled s = false) : s.nextEvent = none := by
  simp [State.nextEvent, h, he]

/-- Everything that the first coming event's happening says. -/
theorem State.nextEvent_some {s s' : State} {e : Event} (h : s.nextEvent = some (e, s')) :
    ∃ i rest, s.inputs = i :: rest ∧ i.ev = e ∧ i.due.now s = true ∧ e.enabled s = true ∧
      s' = { s with inputs := rest } := by
  unfold State.nextEvent at h
  split at h
  · cases h
  · next i rest hi =>
    split at h
    · next hc =>
      simp only [Option.some.injEq, Prod.mk.injEq] at h
      simp only [Bool.and_eq_true] at hc
      exact ⟨i, rest, hi, h.1, hc.1, h.1 ▸ hc.2, h.2.symm⟩
    · cases h

/-! ## Firing an event -/

/-- What no event of the environment and no offer changes. -/
structure EventFrame (s t : State) : Prop where
  cfg : t.cfg = s.cfg
  phase : t.phase = s.phase
  seq : t.seq = s.seq
  led : t.led = s.led
  mmask : t.mmask = s.mmask
  count : t.count = s.count
  tsample : t.tsample = s.tsample
  tbase : t.tbase = s.tbase
  tstate : t.tstate = s.tstate
  tdeb : t.tdeb = s.tdeb
  spiEn : t.spiEn = s.spiEn
  spiData : t.spiData = s.spiData
  q : t.q = s.q
  latch : t.latch = s.latch
  adcMux : t.adcMux = s.adcMux
  padMode : t.padMode = s.padMode
  acc : t.acc = s.acc
  k : t.k = s.k
  cacc : t.cacc = s.cacc
  j : t.j = s.j
  tent : t.tent = s.tent
  obs : t.obs = s.obs
  draws : t.draws = s.draws
  inputs : t.inputs = s.inputs
  motionPend : s.motionPend = true → t.motionPend = true
  tickPend : s.tickPend = true → t.tickPend = true
  scanPend : s.scanPend = true → t.scanPend = true

theorem pinEvent_eq (l : Bool) (s : State) :
    pinEvent l s = { s with
      motionN := l, motionPend := s.motionPend || (s.motionN && !l && decide (s.phase ≠ .reset)) } := by
  unfold pinEvent
  cases h : (s.motionN && !l && decide (s.phase ≠ .reset))
  · simp
  · simp [State.setPending]

theorem Event.fire_frame (e : Event) (s : State) : EventFrame s (e.fire s) := by
  cases e <;> simp only [Event.fire, pinEvent_eq, State.setPending, spiDoneEvent, adcDoneEvent] <;>
    exact ⟨rfl, rfl, rfl, rfl, rfl, rfl, rfl, rfl, rfl, rfl, rfl, rfl, rfl, rfl, rfl, rfl, rfl, rfl, rfl, rfl, rfl, rfl,
      rfl, rfl, by simp +contextual, by simp +contextual, by simp +contextual⟩

/-- The serial link's flags change only by `SPI_DONE` (R406). -/
theorem Event.fire_spi {e : Event} (s : State) (h : e ≠ .spiDone) :
    (e.fire s).spiBusy = s.spiBusy ∧ (e.fire s).spiTc = s.spiTc ∧ (e.fire s).sr = s.sr := by
  cases e <;> simp_all [Event.fire, pinEvent_eq, State.setPending, adcDoneEvent]

/-- The ADC's flags and result change only by `ADC_DONE` (R487). -/
theorem Event.fire_adc {e : Event} (s : State) (h : ∀ r, e ≠ .adcDone r) :
    (e.fire s).adcBusy = s.adcBusy ∧ (e.fire s).adcResRdy = s.adcResRdy ∧ (e.fire s).adcRes = s.adcRes := by
  cases e <;> simp_all [Event.fire, pinEvent_eq, State.setPending, spiDoneEvent]

theorem Event.fire_offered {e : Event} (s : State) (h : ∀ t, e ≠ .offer t) : (e.fire s).offered = s.offered := by
  cases e <;> simp_all [Event.fire, pinEvent_eq, State.setPending, spiDoneEvent, adcDoneEvent]

end Sys2Proof.Machine
end

