-- ==== Sys2Proof/Laws/Step.lean ====
section
/-! SUPPORT. What one step can do, said once: `step_cases`, and what a transaction's job can do: `runJob_induct`. -/

namespace Sys2Proof.Machine

open Sys2Proof.Safety

/-! ## Runs of the core -/

theorem Leads.refl (s : State) : Leads s s := ⟨0, rfl⟩

theorem Leads.head {s t u : State} (h : step s = .next t) (h' : Leads t u) : Leads s u := by
  obtain ⟨n, hn⟩ := h'
  refine ⟨n + 1, ?_⟩
  show Host.Core.run core (n + 1) s = _
  simp only [Host.Core.run, core, h]
  exact hn

theorem Leads.trans {s t u : State} (h : Leads s t) (h' : Leads t u) : Leads s u := by
  obtain ⟨n, hn⟩ := h
  induction n generalizing s with
  | zero => cases hn; exact h'
  | succ n ih =>
    simp only [Host.Core.run] at hn
    split at hn
    · next s' hs => exact Leads.head hs (ih hn)
    · cases hn
    · cases hn

/-! ## Runs with the count of inactive tick services -/

theorem inactiveAfter_event {s : State} {n : Nat} {x : Event × State} (h : s.nextEvent = some x) :
    inactiveAfter s n = n := by
  simp [inactiveAfter, h]

theorem inactiveAfter_free {s : State} {n : Nat} (h : s.isBusy = false) : inactiveAfter s n = n := by
  unfold inactiveAfter
  cases hs : s.seq <;> simp_all [State.isBusy]

/-- A counted run is a run of the machine. -/
theorem countedRun_run {k : Nat} {s t : State} {n m : Nat} (h : countedRun k s n = some (t, m)) :
    core.run k s = .next t := by
  induction k generalizing s n with
  | zero =>
    simp only [countedRun, Option.some.injEq, Prod.mk.injEq] at h
    rw [← h.1]
    rfl
  | succ k ih =>
    show Host.Core.run core (k + 1) s = _
    simp only [countedRun] at h
    split at h
    · next hs =>
      simp only [Host.Core.run, core, hs]
      exact ih h
    · cases h
    · cases h

/-! ## A step in which a job is in progress -/

/-- The state with other coming events and another count of free choices. -/
def State.recast (s : State) (l : List Input) (n : Nat) : State := { s with inputs := l, draws := n }

theorem State.passMove_recast (s : State) : ∃ l, s.passMove = s.recast l s.draws := by
  unfold State.passMove
  split
  · exact ⟨s.inputs, rfl⟩
  · exact ⟨_, rfl⟩

theorem State.canTake_iff {s : State} : s.canTake = true ↔ s.phase = .run ∧ s.isBusy = false := by
  simp [State.canTake]

theorem State.isBusy_of_seq {s : State} {j : Job} (h : s.seq = .busy j) : s.isBusy = true := by
  simp [State.isBusy, h]

theorem State.isBusy_false {s : State} (h : s.isBusy = false) : s.seq = .idle ∨ s.seq = .sleep := by
  unfold State.isBusy at h
  split at h <;> simp_all

/-- No choice of a job happens while one is in progress (R630). -/
theorem State.nextEvent_busy {s s' : State} {j : Job} {p : Pick} (hj : s.seq = .busy j)
    (h : s.nextEvent = some (.run p, s')) : False := by
  obtain ⟨i, rest, -, -, -, he, -⟩ := State.nextEvent_some h
  simp [Event.enabled, State.canTake, State.isBusy_of_seq hj] at he

theorem step_busy {s : State} {j : Job} (hl : s.cfg.legal = true) (hp : s.phase ≠ .reset) (hj : s.seq = .busy j) :
    step s = .next (jobMove j s) := by
  unfold step plan jobMove
  rw [if_pos hl]
  cases hn : s.nextEvent with
  | none =>
    cases hph : s.phase with
    | reset => exact absurd hph hp
    | cal => simp [sequencerMove, hph, hj]
    | run => simp [sequencerMove, hph, hj]
  | some es =>
    obtain ⟨e, s'⟩ := es
    cases e <;> first | exact (State.nextEvent_busy hj hn).elim | rfl

/-- A step with nothing coming in: one statement. -/
theorem step_statement {s : State} {j : Job} (hl : s.cfg.legal = true) (hp : s.phase ≠ .reset)
    (hj : s.seq = .busy j) (hi : Patient s.inputs) (hr : j.holds s = false) :
    step s = .next (jobStep j s) := by
  rw [step_busy hl hp hj, jobMove, State.nextEvent_of_patient hi, State.passMove_of_patient hi]
  simp [State.atRest, hj, hr]

/-- A step at an `await`: the waiting event happens. -/
theorem step_event {s : State} {j : Job} {e : Event} {rest : List Input} (hl : s.cfg.legal = true)
    (hp : s.phase ≠ .reset) (hj : s.seq = .busy j) (hi : s.inputs = lazily e :: rest) (hr : j.holds s = true)
    (he : e.enabled s = true) : step s = .next (e.fire { s with inputs := rest }) := by
  rw [step_busy hl hp hj, jobMove, State.nextEvent_lazily hi _ he]
  simp [State.atRest, hj, hr, hp]

/-! ## Every step -/

/-- What a step that gives a next state did. -/
inductive StepCase (s t : State) : Prop where
  /-- The first coming event happened. -/
  | event (e : Event) (rest : List Input) (he : e.enabled s = true) (hrun : ∀ p, e ≠ .run p)
      (hn : s.nextEvent = some (e, { s with inputs := rest })) (ht : t = e.fire { s with inputs := rest })
  /-- The reset step (R711). -/
  | reset (hp : s.phase = .reset) (ht : t = resetStep s.passMove)
  /-- One statement of the job in progress (R141). -/
  | statement (j : Job) (hp : s.phase ≠ .reset) (hj : s.seq = .busy j) (hn : s.nextEvent = none)
      (ht : t = jobStep j s.passMove)
  /-- A service started (R620). -/
  | service (src : Source) (l : List Input) (n : Nat) (hc : s.canTake = true)
      (ht : t = (s.recast l n).startService src)
  /-- The sequencer went to sleep (R650). -/
  | sleep (hc : s.canTake = true) (ht : t = { s.passMove with seq := .sleep })
  /-- The sequencer had nothing to do. -/
  | nothing (hp : s.phase ≠ .reset) (hb : s.isBusy = false) (l : List Input) (n : Nat) (ht : t = s.recast l n)
  /-- A host transaction ran (R620, R631). -/
  | transaction (i : Instr) (l : List Input) (n : Nat) (hc : s.canTake = true)
      (hpl : plan s = .execute i (s.recast l n))
      (ht : t = runJob (s.recast l n).hostFuel ((s.recast l n).startHost i))

theorem exec_eq_hostJob (i : Instr) (s : State) : exec i s = hostJob i s := by
  cases i <;> rfl

theorem hostJob_taken {i : Instr} {s : State} (hl : s.cfg.legal = true) (hc : s.canTake = true) :
    hostJob i s = .next (runJob s.hostFuel (s.startHost i)) := by
  simp [hostJob, hl, hc]

theorem hostJob_waits {i : Instr} {s : State} (hl : s.cfg.legal = true) (hc : s.canTake = false) :
    hostJob i s = .next { s with offered := some (encode i) } := by
  simp [hostJob, hl, hc]

theorem hostJob_illegal {i : Instr} {s : State} (hl : s.cfg.legal = false) :
    hostJob i s = .refused .illegalConfig := by
  simp [hostJob, hl]

theorem exec_taken {i : Instr} {s : State} (h : Ready s) : exec i s = .next (runJob s.hostFuel (s.startHost i)) := by
  rw [exec_eq_hostJob, hostJob_taken h.legal (State.canTake_iff.2 ⟨h.run, h.free⟩)]

/-- What the dispatch step can do with a choice (R620, R203). -/
theorem dispatch_cases (p : Pick) (s : State) :
    (∃ src, dispatch p s = .go (s.startService src)) ∨ dispatch p s = .go s ∨ (∃ i, dispatch p s = .execute i s) ∨
      dispatch p s = .refuse .reservedAccess := by
  cases p with
  | service src => exact .inl ⟨src, rfl⟩
  | host =>
    simp only [dispatch]
    split
    · exact .inr (.inl rfl)
    · split
      · exact .inr (.inr (.inl ⟨_, rfl⟩))
      · exact .inr (.inr (.inr rfl))

theorem step_of_dispatch {s t : State} {p : Pick} {l : List Input} {n : Nat} (hl : s.cfg.legal = true)
    (hc : s.canTake = true) (hpl : plan s = dispatch p (s.recast l n)) (h : step s = .next t) : StepCase s t := by
  have hb := State.canTake_iff.1 hc
  unfold step at h
  rcases dispatch_cases p (s.recast l n) with ⟨src, hd⟩ | hd | ⟨i, hd⟩ | hd
  · rw [hpl, hd] at h
    cases h
    exact .service src l n hc rfl
  · rw [hpl, hd] at h
    cases h
    exact .nothing (by simp [hb.1]) hb.2 l n rfl
  · rw [hpl, hd] at h
    simp only [exec_eq_hostJob] at h
    rw [hostJob_taken (i := i) (s := s.recast l n) hl hc] at h
    cases h
    exact .transaction i l n hc (hpl.trans hd) rfl
  · rw [hpl, hd] at h
    cases h

theorem State.pendingSources_recast (s : State) (l : List Input) (n : Nat) :
    (s.recast l n).pendingSources = s.pendingSources := by
  simp [State.pendingSources, State.recast, List.filter, State.pending]

/-- The candidates do not depend on what is coming. -/
theorem State.candidates_recast (s : State) (l : List Input) (n : Nat) :
    (s.recast l n).candidates = s.candidates := by
  have hp : ∀ src, (s.recast l n).pending src = s.pending src := fun src => by cases src <;> rfl
  unfold State.candidates
  show (match s.cfg.priority with
    | .any => _
    | .order a b c => _) = _
  cases s.cfg.priority with
  | any => simp only [State.pendingSources_recast]; rfl
  | order a b c =>
    simp only [State.ordered]
    rw [show (s.recast l n).pending = s.pending from funext hp]
    rfl

/-- The sequencer's move when it may take a job. -/
theorem step_of_dispatchMove {s t : State} (hl : s.cfg.legal = true) (hc : s.canTake = true)
    (hpl : plan s = dispatchMove s.passMove) (h : step s = .next t) : StepCase s t := by
  obtain ⟨l, hpm⟩ := State.passMove_recast s
  unfold dispatchMove at hpl
  split at hpl
  · unfold step at h
    rw [hpl] at h
    cases h
    exact .sleep hc rfl
  · rw [hpm] at hpl
    exact step_of_dispatch hl hc hpl h
  · rw [hpm] at hpl
    exact step_of_dispatch (l := l) (n := s.draws + 1) hl hc hpl h

/-- Every step that gives a next state is one of these. -/
theorem step_cases {s t : State} (h : step s = .next t) : s.cfg.legal = true ∧ StepCase s t := by
  have hl : s.cfg.legal = true := by
    by_contra hl
    simp [step, plan, hl] at h
  refine ⟨hl, ?_⟩
  cases hn : s.nextEvent with
  | some es =>
    obtain ⟨e, s'⟩ := es
    obtain ⟨i, rest, hi, hev, -, he, rfl⟩ := State.nextEvent_some hn
    by_cases hrun : ∃ p, e = .run p
    · obtain ⟨p, rfl⟩ := hrun
      have hc : s.canTake = true := by
        simp only [Event.enabled, Bool.and_eq_true] at he
        exact he.1
      have hpl : plan s = dispatch p (s.recast rest s.draws) := by simp [plan, hl, hn]; rfl
      exact step_of_dispatch hl hc hpl h
    · refine .event e rest he (fun p hp => hrun ⟨p, hp⟩) hn ?_
      unfold step plan at h
      rw [if_pos hl, hn] at h
      cases e <;> first | exact absurd ⟨_, rfl⟩ hrun | (cases h; rfl)
  | none =>
    have hpl : plan s = sequencerMove s.passMove := by simp [plan, hl, hn]
    cases hph : s.phase with
    | reset =>
      refine .reset hph ?_
      simp only [step, hpl, sequencerMove, State.passMove_phase, hph] at h
      cases h
      rfl
    | cal =>
      have hp : s.phase ≠ .reset := by simp [hph]
      cases hsq : s.seq with
      | busy j =>
        refine .statement j hp hsq hn ?_
        simp only [step, hpl, sequencerMove, State.passMove_phase, hph, State.passMove_seq, hsq] at h
        cases h
        rfl
      | _ =>
        simp only [step, hpl, sequencerMove, State.passMove_phase, hph, State.passMove_seq, hsq] at h
        cases h
        obtain ⟨l, hpm⟩ := State.passMove_recast s
        exact .nothing hp (by simp [State.isBusy, hsq]) l s.draws hpm
    | run =>
      have hp : s.phase ≠ .reset := by simp [hph]
      cases hsq : s.seq with
      | busy j =>
        refine .statement j hp hsq hn ?_
        simp only [step, hpl, sequencerMove, State.passMove_phase, hph, State.passMove_seq, hsq] at h
        cases h
        rfl
      | _ =>
        refine step_of_dispatchMove hl (State.canTake_iff.2 ⟨hph, by simp [State.isBusy, hsq]⟩) ?_ h
        rw [hpl]
        simp only [sequencerMove, State.passMove_phase, hph, State.passMove_seq, hsq]

/-! ## A transaction's job -/

/-- What holds at the start of a run of moves and is kept by every move of a job holds at its end. -/
theorem runJob_induct {P : State → Prop} (hmove : ∀ s j, P s → s.seq = .busy j → P (jobMove j s)) :
    ∀ (n : Nat) (s : State), P s → P (runJob n s)
  | 0, _, h => h
  | n + 1, s, h => by
    unfold runJob
    split
    · next j hj => exact runJob_induct hmove n _ (hmove s j h hj)
    · exact h
    · exact h

/-- One move of a job: an event, or a statement. -/
theorem jobMove_cases {s : State} {j : Job} (hj : s.seq = .busy j) :
    (∃ (e : Event) (rest : List Input), e.enabled s = true ∧ (∀ p, e ≠ .run p) ∧ jobMove j s = e.fire { s with inputs := rest }) ∨
      (s.nextEvent = none ∧ jobMove j s = jobStep j s.passMove) := by
  unfold jobMove
  cases hn : s.nextEvent with
  | none => exact .inr ⟨rfl, rfl⟩
  | some es =>
    obtain ⟨e, s'⟩ := es
    obtain ⟨i, rest, -, -, -, he, rfl⟩ := State.nextEvent_some hn
    exact .inl ⟨e, rest, he, fun p hp => State.nextEvent_busy hj (hp ▸ hn), rfl⟩

theorem runJob_busy {n : Nat} {s : State} {j : Job} (h : s.seq = .busy j) :
    runJob (n + 1) s = runJob n (jobMove j s) := by
  simp [runJob, h]

theorem runJob_done {n : Nat} {s : State} (h : s.isBusy = false) : runJob n s = s := by
  cases n with
  | zero => rfl
  | succ n => rcases State.isBusy_false h with h | h <;> simp [runJob, h]

/-- A move of a transaction's job with nothing coming in: one statement. -/
theorem runJob_statement {n : Nat} {s : State} {j : Job} (h : s.seq = .busy j) (hi : Patient s.inputs)
    (hr : j.holds s = false) : runJob (n + 1) s = runJob n (jobStep j s) := by
  rw [runJob_busy h, jobMove, State.nextEvent_of_patient hi, State.passMove_of_patient hi]
  simp [State.atRest, h, hr]

end Sys2Proof.Machine
end

