-- ==== Sys2Proof/Laws/Jobs.lean ====
section
/-! SUPPORT. What the inline procedures and the jobs leave alone, and where they go next. -/

namespace Sys2Proof.Machine

open Sys2Proof.Safety

/-- What no statement of `TRANSFER` changes (R403). -/
structure TransferFrame (s t : State) : Prop where
  cfg : t.cfg = s.cfg
  phase : t.phase = s.phase
  seq : t.seq = s.seq
  mmask : t.mmask = s.mmask
  count : t.count = s.count
  tsample : t.tsample = s.tsample
  tbase : t.tbase = s.tbase
  tstate : t.tstate = s.tstate
  tdeb : t.tdeb = s.tdeb
  motionPend : t.motionPend = s.motionPend
  tickPend : t.tickPend = s.tickPend
  scanPend : t.scanPend = s.scanPend
  adcMux : t.adcMux = s.adcMux
  adcBusy : t.adcBusy = s.adcBusy
  adcResRdy : t.adcResRdy = s.adcResRdy
  adcRes : t.adcRes = s.adcRes
  padMode : t.padMode = s.padMode
  motionN : t.motionN = s.motionN
  acc : t.acc = s.acc
  k : t.k = s.k
  cacc : t.cacc = s.cacc
  j : t.j = s.j
  tent : t.tent = s.tent
  offered : t.offered = s.offered
  inputs : t.inputs = s.inputs
  draws : t.draws = s.draws

theorem transferStep_frame (p : TransferPos) (s : State) : TransferFrame s (transferStep p s).2 := by
  cases p <;> constructor <;> rfl

/-- What no statement of `FILTERED_SAMPLE` changes (R486, R490). -/
structure FilterFrame (s t : State) : Prop where
  cfg : t.cfg = s.cfg
  phase : t.phase = s.phase
  seq : t.seq = s.seq
  led : t.led = s.led
  mmask : t.mmask = s.mmask
  count : t.count = s.count
  tbase : t.tbase = s.tbase
  tstate : t.tstate = s.tstate
  tdeb : t.tdeb = s.tdeb
  motionPend : t.motionPend = s.motionPend
  tickPend : t.tickPend = s.tickPend
  scanPend : t.scanPend = s.scanPend
  spiEn : t.spiEn = s.spiEn
  spiBusy : t.spiBusy = s.spiBusy
  spiTc : t.spiTc = s.spiTc
  spiData : t.spiData = s.spiData
  sr : t.sr = s.sr
  q : t.q = s.q
  latch : t.latch = s.latch
  motionN : t.motionN = s.motionN
  cacc : t.cacc = s.cacc
  j : t.j = s.j
  tent : t.tent = s.tent
  offered : t.offered = s.offered
  obs : t.obs = s.obs
  inputs : t.inputs = s.inputs
  draws : t.draws = s.draws

theorem filterStep_frame (p : FilterPos) (s : State) : FilterFrame s (filterStep p s).2 := by
  cases p with
  | shot p =>
    cases p with
    | s7 => cases h : s.adcResRdy <;> constructor <;> simp [filterStep, shotStep, h]
    | _ => constructor <;> rfl
  | _ => constructor <;> rfl

/-- A transfer writes `LED` only at T1 (R402). -/
theorem transferStep_led (p : TransferPos) (s : State) :
    (transferStep p s).2.led = s.led ∨ ∃ v, p = .t1 v ∧ (transferStep p s).2.led = v := by
  cases p <;> first | exact .inl rfl | exact .inr ⟨_, rfl, rfl⟩

/-- A transfer appends at most its one latch event (R405). -/
theorem transferStep_obs (p : TransferPos) (s : State) :
    (transferStep p s).2.obs = s.obs ∨ (p = .t6 ∧ (transferStep p s).2.obs = s.obs ++ [.latch s.sr]) := by
  cases p <;> first | exact .inl rfl | exact .inr ⟨rfl, rfl⟩

/-- The pair a procedure's statement answers, as an equation per projection. -/
theorem pair_eq {α β : Type} {p : α × β} {a : α} {b : β} (h : p = (a, b)) : p.1 = a ∧ p.2 = b := by
  cases h; exact ⟨rfl, rfl⟩

/-- Inside a `TRANSFER` a job goes on in it or leaves it, with the state the statement made. -/
theorem hostStep_transfer (i : Instr) (p : TransferPos) (s : State) :
    (∃ p', (transferStep p s).1 = some p' ∧
      hostStep i (.transfer p) s = (transferStep p s).2.goto (.host i (.transfer p'))) ∨
    ((transferStep p s).1 = none ∧ hostStep i (.transfer p) s = ((transferStep p s).2.observe .done).endJob) := by
  cases h : transferStep p s with
  | mk o s' =>
    cases o with
    | none => exact .inr ⟨rfl, by simp [hostStep, h]⟩
    | some p' => exact .inl ⟨p', rfl, by simp [hostStep, h]⟩

/-- What neither an event nor a statement of a host transaction changes: the registers of the timeout scheduler and the
touch sensor, the pad and the ADC's input, the phase, the parameters and the count of free choices. The job stays the
transaction's, or ends (R630). -/
structure HostRunFrame (i : Instr) (s t : State) : Prop where
  cfg : t.cfg = s.cfg
  phase : t.phase = s.phase
  count : t.count = s.count
  tsample : t.tsample = s.tsample
  tbase : t.tbase = s.tbase
  tstate : t.tstate = s.tstate
  tdeb : t.tdeb = s.tdeb
  adcMux : t.adcMux = s.adcMux
  padMode : t.padMode = s.padMode
  draws : t.draws = s.draws
  job : t.seq = .idle ∨ ∃ p, t.seq = .busy (.host i p)

theorem hostStep_frame (i : Instr) (p : HostPos) (s : State) : HostRunFrame i s (hostStep i p s) := by
  cases p with
  | body =>
    cases i <;> first
      | exact ⟨rfl, rfl, rfl, rfl, rfl, rfl, rfl, rfl, rfl, rfl, .inl rfl⟩
      | exact ⟨rfl, rfl, rfl, rfl, rfl, rfl, rfl, rfl, rfl, rfl, .inr ⟨_, rfl⟩⟩
  | transfer p =>
    have f := transferStep_frame p s
    rcases hostStep_transfer i p s with ⟨p', -, e⟩ | ⟨-, e⟩ <;> rw [e]
    · exact ⟨f.cfg, f.phase, f.count, f.tsample, f.tbase, f.tstate, f.tdeb, f.adcMux, f.padMode, f.draws,
        .inr ⟨_, rfl⟩⟩
    · exact ⟨f.cfg, f.phase, f.count, f.tsample, f.tbase, f.tstate, f.tdeb, f.adcMux, f.padMode, f.draws, .inl rfl⟩

/-- A host transaction's job, run to its end or to its hold, with whatever comes meanwhile. -/
theorem runJob_host_frame {i : Instr} {s : State} {p : HostPos} (h : s.seq = .busy (.host i p)) (n : Nat) :
    HostRunFrame i s (runJob n s) := by
  refine runJob_induct (P := HostRunFrame i s) ?_ n s
    ⟨rfl, rfl, rfl, rfl, rfl, rfl, rfl, rfl, rfl, rfl, .inr ⟨p, h⟩⟩
  intro u j f hj
  rcases jobMove_cases hj with ⟨e, rest, -, -, hm⟩ | ⟨-, hm⟩ <;> rw [hm]
  · have g := Event.fire_frame e { u with inputs := rest }
    exact ⟨g.cfg.trans f.cfg, g.phase.trans f.phase, g.count.trans f.count, g.tsample.trans f.tsample,
      g.tbase.trans f.tbase, g.tstate.trans f.tstate, g.tdeb.trans f.tdeb, g.adcMux.trans f.adcMux,
      g.padMode.trans f.padMode, g.draws.trans f.draws, by rw [g.seq]; exact f.job⟩
  · obtain ⟨l, hl⟩ := u.passMove_recast
    rcases f.job with hi | ⟨q, hq⟩
    · rw [hj] at hi; cases hi
    · rw [hj] at hq; cases hq
      rw [hl]
      have g := hostStep_frame i q (u.recast l u.draws)
      exact ⟨g.cfg.trans f.cfg, g.phase.trans f.phase, g.count.trans f.count, g.tsample.trans f.tsample,
        g.tbase.trans f.tbase, g.tstate.trans f.tstate, g.tdeb.trans f.tdeb, g.adcMux.trans f.adcMux,
        g.padMode.trans f.padMode, g.draws.trans f.draws, g.job⟩

theorem motionStep_transfer (p : TransferPos) (s : State) :
    (∃ p', (transferStep p s).1 = some p' ∧
      motionStep (.transfer p) s = (transferStep p s).2.goto (.motion (.transfer p'))) ∨
    ((transferStep p s).1 = none ∧ motionStep (.transfer p) s = (transferStep p s).2.goto (.motion .m2)) := by
  cases h : transferStep p s with
  | mk o s' =>
    cases o with
    | none => exact .inr ⟨rfl, by simp [motionStep, h]⟩
    | some p' => exact .inl ⟨p', rfl, by simp [motionStep, h]⟩

theorem tickStep_transfer (p : TransferPos) (s : State) :
    (∃ p', (transferStep p s).1 = some p' ∧
      tickStep (.transfer p) s = (transferStep p s).2.goto (.tick (.transfer p'))) ∨
    ((transferStep p s).1 = none ∧ tickStep (.transfer p) s = (transferStep p s).2.goto (.tick .k7)) := by
  cases h : transferStep p s with
  | mk o s' =>
    cases o with
    | none => exact .inr ⟨rfl, by simp [tickStep, h]⟩
    | some p' => exact .inl ⟨p', rfl, by simp [tickStep, h]⟩

theorem scanStep_transfer (p : TransferPos) (s : State) :
    (∃ p', (transferStep p s).1 = some p' ∧
      scanStep (.transfer p) s = (transferStep p s).2.goto (.scan (.transfer p'))) ∨
    ((transferStep p s).1 = none ∧ scanStep (.transfer p) s = (transferStep p s).2.goto (.scan .a1)) := by
  cases h : transferStep p s with
  | mk o s' =>
    cases o with
    | none => exact .inr ⟨rfl, by simp [scanStep, h]⟩
    | some p' => exact .inl ⟨p', rfl, by simp [scanStep, h]⟩

theorem scanStep_filter (p : FilterPos) (s : State) :
    (∃ p', (filterStep p s).1 = some p' ∧
      scanStep (.filter p) s = (filterStep p s).2.goto (.scan (.filter p'))) ∨
    ((filterStep p s).1 = none ∧ scanStep (.filter p) s = (filterStep p s).2.goto (.scan .c2)) := by
  cases h : filterStep p s with
  | mk o s' =>
    cases o with
    | none => exact .inr ⟨rfl, by simp [scanStep, h]⟩
    | some p' => exact .inl ⟨p', rfl, by simp [scanStep, h]⟩

theorem calStep_filter (p : FilterPos) (s : State) :
    (∃ p', (filterStep p s).1 = some p' ∧
      calStep (.filter p) s = (filterStep p s).2.goto (.cal (.filter p'))) ∨
    ((filterStep p s).1 = none ∧ calStep (.filter p) s = (filterStep p s).2.goto (.cal .l4)) := by
  cases h : filterStep p s with
  | mk o s' =>
    cases o with
    | none => exact .inr ⟨rfl, by simp [calStep, h]⟩
    | some p' => exact .inl ⟨p', rfl, by simp [calStep, h]⟩

end Sys2Proof.Machine
end

