-- ==== Sys2Proof/Laws/PerInstr.lean ====
section
/-! SUPPORT. The family of statements about every instruction as syntax: no canonical word is a reserved encoding
(R304), and its bits above the transaction are none. -/

namespace Sys2Proof.Laws.EncodesUnreserved

/-- The canonical word's `W` and `A` are not a reserved pair (R303, R304). -/
def Statement (i : Instr) : Prop := reservedPair (fieldW (encode i)) (fieldA (encode i)) = false

/-- A word's field `W` is the one it was built from (R300). -/
theorem fieldW_word (w : Bool) (a : BitVec 4) (d : Byte) : fieldW (word w a d) = w := by
  show BitVec.getLsbD (w := 1 + 4 + 8) ((BitVec.ofBool w ++ a) ++ d) 12 = w
  rw [BitVec.getLsbD_append, BitVec.getLsbD_append]
  simp

/-- A word's field `A` is the one it was built from (R300). -/
theorem fieldA_word (w : Bool) (a : BitVec 4) (d : Byte) : fieldA (word w a d) = a := by
  apply BitVec.eq_of_getLsbD_eq
  intro n hn
  have h : (fieldA (word w a d)).getLsbD n =
      BitVec.getLsbD (w := 1 + 4 + 8) ((BitVec.ofBool w ++ a) ++ d) (8 + n) := by
    simp only [fieldA, BitVec.getLsbD_extractLsb', hn, decide_true, Bool.true_and]
    rfl
  rw [h, BitVec.getLsbD_append, BitVec.getLsbD_append]
  simp [hn]

theorem statement_word {i : Instr} {w : Bool} {a : BitVec 4} {d : Byte} (h : encode i = word w a d)
    (hr : reservedPair w a = false) : Statement i := by
  rw [Statement, h, fieldW_word, fieldA_word, hr]

theorem ledAssign (d : Byte) : Statement (.ledAssign d) := statement_word rfl (by decide)
theorem ledSet (d : Byte) : Statement (.ledSet d) := statement_word rfl (by decide)
theorem ledClr (d : Byte) : Statement (.ledClr d) := statement_word rfl (by decide)
theorem ledTgl (d : Byte) : Statement (.ledTgl d) := statement_word rfl (by decide)
theorem mmaskEn (d : Byte) : Statement (.mmaskEn d) := statement_word rfl (by decide)
theorem mmaskDis (d : Byte) : Statement (.mmaskDis d) := statement_word rfl (by decide)
theorem rdLed : Statement .rdLed := statement_word rfl (by decide)
theorem rdMmask : Statement .rdMmask := statement_word rfl (by decide)
theorem rdCount : Statement .rdCount := statement_word rfl (by decide)
theorem rdTstat : Statement .rdTstat := statement_word rfl (by decide)
theorem rdTsamplel : Statement .rdTsamplel := statement_word rfl (by decide)
theorem rdTsampleh : Statement .rdTsampleh := statement_word rfl (by decide)
theorem rdTbasel : Statement .rdTbasel := statement_word rfl (by decide)
theorem rdTbaseh : Statement .rdTbaseh := statement_word rfl (by decide)
theorem rdFlags : Statement .rdFlags := statement_word rfl (by decide)

end Sys2Proof.Laws.EncodesUnreserved
end

