-- ==== Sys2Proof/Machine/Assembler.lean ====
section
/-! DEFINITION. The text of host transactions and of scripts (R310, R311, R312), one line at a time, as a list of
characters: what a line means, or nothing where it has none. -/

namespace Sys2Proof.Machine

/-- A line up to its comment, which `;` starts (R310). -/
def uncomment (line : List Char) : List Char := line.takeWhile (fun c => c != ';')

/-- The words of a line, apart at spaces and tabs (log entry 23). -/
def splitWords (sofar : List Char) : List Char → List (List Char)
  | [] => if sofar.isEmpty then [] else [sofar.reverse]
  | c :: cs =>
    if c = ' ' || c = '\t' then
      (if sofar.isEmpty then splitWords [] cs else sofar.reverse :: splitWords [] cs)
    else splitWords (c :: sofar) cs

/-- The value of a digit in a base up to 16, of either case. -/
def digitValue (base : Nat) (c : Char) : Option Nat :=
  let v :=
    if '0'.toNat ≤ c.toNat ∧ c.toNat ≤ '9'.toNat then c.toNat - '0'.toNat
    else if 'a'.toNat ≤ c.toNat ∧ c.toNat ≤ 'f'.toNat then c.toNat - 'a'.toNat + 10
    else if 'A'.toNat ≤ c.toNat ∧ c.toNat ≤ 'F'.toNat then c.toNat - 'A'.toNat + 10
    else 16
  if v < base then some v else none

/-- A non-empty sequence of digits, read in a base after the value `sofar`. -/
def digitsValue (base sofar : Nat) : List Char → Option Nat
  | [] => some sofar
  | c :: cs =>
    match digitValue base c with
    | some v => digitsValue base (sofar * base + v) cs
    | none => none

/-- A number in hex (`0x5A`), binary (`0b01011010`) or decimal (`90`) (R310). -/
def parseNumber : List Char → Option Nat
  | [] => none
  | '0' :: 'x' :: c :: cs => digitsValue 16 0 (c :: cs)
  | '0' :: 'b' :: c :: cs => digitsValue 2 0 (c :: cs)
  | c :: cs => digitsValue 10 0 (c :: cs)

/-- An 8-bit operand (R310). -/
def parseByte (w : List Char) : Option Byte :=
  match parseNumber w with
  | some n => if n < 256 then some (BitVec.ofNat 8 n) else none
  | none => none

/-- Format `WR`, and the pseudo-instructions of one operand (R303, R311). -/
def parseUnary (name : List Char) (d : Byte) : Option Instr :=
  if name = "LED.ASSIGN".toList then some (.ledAssign d)
  else if name = "LED.SET".toList then some (.ledSet d)
  else if name = "LED.CLR".toList then some (.ledClr d)
  else if name = "LED.TGL".toList then some (.ledTgl d)
  else if name = "MMASK.EN".toList then some (.mmaskEn d)
  else if name = "MMASK.DIS".toList then some (.mmaskDis d)
  else if name = "TRANSFER".toList then some (Pseudo.transfer d).expand
  else if name = "ASSIGN".toList then some (Pseudo.assign d).expand
  else if name = "SETB".toList then some (Pseudo.setb d).expand
  else if name = "CLRB".toList then some (Pseudo.clrb d).expand
  else if name = "TGLB".toList then some (Pseudo.tglb d).expand
  else if name = "ENMOT".toList then some (Pseudo.enmot d).expand
  else if name = "DISMOT".toList then some (Pseudo.dismot d).expand
  else none

/-- Format `RD`, and the pseudo-instructions without operand (R303, R311). -/
def parseNullary (name : List Char) : Option Instr :=
  if name = "RD.LED".toList then some .rdLed
  else if name = "RD.MMASK".toList then some .rdMmask
  else if name = "RD.COUNT".toList then some .rdCount
  else if name = "RD.TSTAT".toList then some .rdTstat
  else if name = "RD.TSAMPLEL".toList then some .rdTsamplel
  else if name = "RD.TSAMPLEH".toList then some .rdTsampleh
  else if name = "RD.TBASEL".toList then some .rdTbasel
  else if name = "RD.TBASEH".toList then some .rdTbaseh
  else if name = "RD.FLAGS".toList then some .rdFlags
  else if name = "ALL.ON".toList then some Pseudo.allOn.expand
  else if name = "ALL.OFF".toList then some Pseudo.allOff.expand
  else if name = "RELATCH".toList then some Pseudo.relatch.expand
  else none

/-- One line of assembler text (R310). -/
def assemble (line : List Char) : Option Instr :=
  match splitWords [] (uncomment line) with
  | [name] => parseNullary name
  | [name, operand] =>
    match parseByte operand with
    | some d => parseUnary name d
    | none => none
  | _ => none

/-- The services by name (R312). -/
def parseService (name : List Char) : Option Source :=
  if name = "MOTION_SVC".toList then some .motion
  else if name = "TICK_SVC".toList then some .tick
  else if name = "SCAN_SVC".toList then some .scan
  else none

/-- One line of a script: a host transaction, or an event written with `@` (R312). -/
def scriptLine (line : List Char) : Option Event :=
  match splitWords [] (uncomment line) with
  | [name] =>
    if name = "@tick".toList then some .tick
    else if name = "@scan".toList then some .scan
    else if name = "@spi".toList then some .spiDone
    else (assemble line).map (fun i => .offer (encode i))
  | [name, operand] =>
    if name = "@pin".toList then
      (if operand = ['0'] then some (.pin false) else if operand = ['1'] then some (.pin true) else none)
    else if name = "@adc".toList then
      match parseNumber operand with
      | some r => if r < 1024 then some (.adcDone (BitVec.ofNat 10 r)) else none
      | none => none
    else if name = "@run".toList then (parseService operand).map (fun src => .run (.service src))
    else (assemble line).map (fun i => .offer (encode i))
  | _ => none

end Sys2Proof.Machine
end

