-- ==== Sys2Proof/Tests/Slice0.lean ====
section
/-! SUPPORT. The model's own tests: ill-formed parameters refused, words written out from the encoding tables decoded,
small steps with the results that spec/95_test_vectors.md gives, and a witness for the hypotheses of every statement. -/

namespace Sys2Proof.Tests

open Sys2Proof Sys2Proof.Machine Sys2Proof.Safety

/-! ## Helpers -/

/-- Phase RUN with every register as at reset and nothing coming. -/
def running : State := { State.reset with phase := .run }

/-- The next state, if there is one. -/
def stateOf : Host.Outcome State Fault Refusal → Option State
  | .next s => some s
  | .fault _ => none
  | .refused _ => none

/-- The refusal, if there is one. -/
def refusalOf : Host.Outcome State Fault Refusal → Option Refusal
  | .next _ => none
  | .fault _ => none
  | .refused r => some r

/-- The completion of the transfer, coming when the job waits for it. -/
def spi : List Input := [lazily .spiDone]

/-! ## Ill-formed parameters (R11) -/

theorem test_legal_default : Config.default.legal = true := by decide
theorem test_illegal_timeout_low : ({ Config.default with timeoutSec := 0 } : Config).legal = false := by decide
theorem test_illegal_timeout_high : ({ Config.default with timeoutSec := 256 } : Config).legal = false := by decide
theorem test_illegal_samples_not_power : ({ Config.default with scanSamples := 48 } : Config).legal = false := by decide
theorem test_illegal_samples_high :
    ({ Config.default with scanSamples := 128, sampleShift := 7 } : Config).legal = false := by decide
theorem test_illegal_shift : ({ Config.default with sampleShift := 5 } : Config).legal = false := by decide
theorem test_illegal_cal_low : ({ Config.default with calSamples := 0 } : Config).legal = false := by decide
theorem test_illegal_cal_high : ({ Config.default with calSamples := 65 } : Config).legal = false := by decide
theorem test_illegal_threshold : ({ Config.default with threshold := 65536 } : Config).legal = false := by decide
theorem test_illegal_debounce_low : ({ Config.default with touchDebounce := 0 } : Config).legal = false := by decide
theorem test_illegal_debounce_high : ({ Config.default with touchDebounce := 17 } : Config).legal = false := by decide
theorem test_illegal_baseline_shift : ({ Config.default with baselineShift := 16 } : Config).legal = false := by decide
theorem test_illegal_adc_low : ({ Config.default with adcBits := 0 } : Config).legal = false := by decide
theorem test_illegal_adc_high : ({ Config.default with adcBits := 11 } : Config).legal = false := by decide
theorem test_illegal_priority :
    ({ Config.default with priority := .order .motion .tick .motion } : Config).legal = false := by decide
theorem test_illegal_config_refused :
    refusalOf (step { running with cfg := { Config.default with timeoutSec := 0 } }) = some .illegalConfig := by decide
theorem test_wellFormed_all : ∀ i : Instr, i.wellFormed = true := by intro i; cases i <;> rfl

/-! ## Words written bit by bit: `W`, `A[3:0]`, `D[7:0]` (R300, R303) -/

theorem test_decode_ledAssign : decode 0b1_0000_10100000#13 = .instr (.ledAssign 0xA0) := by decide
theorem test_decode_ledSet : decode 0b1_0001_00110000#13 = .instr (.ledSet 0x30) := by decide
theorem test_decode_ledClr : decode 0b1_0010_00001100#13 = .instr (.ledClr 0x0C) := by decide
theorem test_decode_ledTgl : decode 0b1_0011_11111111#13 = .instr (.ledTgl 0xFF) := by decide
theorem test_decode_mmaskEn : decode 0b1_0100_00001111#13 = .instr (.mmaskEn 0x0F) := by decide
theorem test_decode_mmaskDis : decode 0b1_0101_00000001#13 = .instr (.mmaskDis 0x01) := by decide
theorem test_decode_rdLed : decode 0b0_0000_11111111#13 = .instr .rdLed := by decide
theorem test_decode_rdMmask : decode 0b0_0100_10101011#13 = .instr .rdMmask := by decide
theorem test_decode_rdCount : decode 0b0_0110_00000000#13 = .instr .rdCount := by decide
theorem test_decode_rdTstat : decode 0b0_0111_00000000#13 = .instr .rdTstat := by decide
theorem test_decode_rdTsamplel : decode 0b0_1000_00000000#13 = .instr .rdTsamplel := by decide
theorem test_decode_rdTsampleh : decode 0b0_1001_00000000#13 = .instr .rdTsampleh := by decide
theorem test_decode_rdTbasel : decode 0b0_1010_00000000#13 = .instr .rdTbasel := by decide
theorem test_decode_rdTbaseh : decode 0b0_1011_00000000#13 = .instr .rdTbaseh := by decide
theorem test_decode_rdFlags : decode 0b0_1100_00000000#13 = .instr .rdFlags := by decide

/-- V11: the reserved words, at the ends of their ranges. -/
theorem test_decode_reserved :
    decode 0b1_0110_00000000#13 = .reserved true 0x6 ∧ decode 0b1_1000_00010010#13 = .reserved true 0x8 ∧
    decode 0b1_1111_00000000#13 = .reserved true 0xF ∧ decode 0b0_0001_00000000#13 = .reserved false 0x1 ∧
    decode 0b0_0010_00000000#13 = .reserved false 0x2 ∧ decode 0b0_0011_00000000#13 = .reserved false 0x3 ∧
    decode 0b0_0101_00000000#13 = .reserved false 0x5 ∧ decode 0b0_1101_00000000#13 = .reserved false 0xD ∧
    decode 0b0_1111_00000000#13 = .reserved false 0xF := by decide

/-- The opcode table's numbers are the words (log entry 19). -/
theorem test_decodeTableWord :
    decodeTableWord 16 0x105A = some (.ledAssign 0x5A) ∧ decodeTableWord 16 0x0C00 = some .rdFlags ∧
    decodeTableWord 16 0x1600 = none ∧ decodeTableWord 16 0x3000 = none := by decide

/-! ## One instruction each, with the examples of R410 to R540 and of spec/95_test_vectors.md -/

theorem test_ledAssign :
    (stateOf (exec (.ledAssign 0xA0) { running with led := 0x0F, inputs := spi })).map (fun t => (t.led, t.q, t.obs)) =
      some (0xA0, 0xA0, [.latch 0xA0, .done]) := by decide
theorem test_ledAssign_hangs :
    (stateOf (exec (.ledAssign 0xA0) { running with q := 0x33 })).map (fun t => (t.seq, t.q, t.obs)) =
      some (.busy (.host (.ledAssign 0xA0) (.transfer .t4)), 0x33, []) := by decide
theorem test_ledSet :
    (stateOf (exec (.ledSet 0x30) { running with led := 0x0F, inputs := spi })).map (fun t => (t.led, t.q)) =
      some (0x3F, 0x3F) := by decide
theorem test_ledSet_resends :
    (stateOf (exec (.ledSet 0x00) { running with led := 0x0F, inputs := spi })).map (fun t => t.obs) =
      some [.latch 0x0F, .done] := by decide
theorem test_ledClr :
    (stateOf (exec (.ledClr 0x0C) { running with led := 0x3F, inputs := spi })).map (fun t => (t.led, t.spiEn)) =
      some (0x33, false) := by decide
theorem test_ledTgl :
    (stateOf (exec (.ledTgl 0xFF) { running with led := 0x33, inputs := spi })).map (fun t => (t.led, t.sr)) =
      some (0xCC, 0xCC) := by decide
theorem test_mmaskEn :
    (stateOf (exec (.mmaskEn 0x0C) { running with mmask := 0x03 })).map (fun t => (t.mmask, t.obs)) =
      some (0x0F, [.done]) := by decide
theorem test_mmaskDis :
    (stateOf (exec (.mmaskDis 0x01) { running with mmask := 0x0F, led := 0xFF })).map (fun t => (t.mmask, t.led)) =
      some (0x0E, 0xFF) := by decide
theorem test_rdLed :
    (stateOf (exec .rdLed { running with led := 0xCC, q := 0x11 })).map (fun t => t.obs) =
      some [.response 0xCC] := by decide
theorem test_rdMmask :
    (stateOf (exec .rdMmask { running with mmask := 0x5A })).map (fun t => t.obs) = some [.response 0x5A] := by decide
theorem test_rdCount :
    (stateOf (exec .rdCount { running with count := 4 })).map (fun t => t.obs) = some [.response 0x04] := by decide
theorem test_rdTstat :
    (stateOf (exec .rdTstat { running with tstate := true, tdeb := 3 })).map (fun t => t.obs) =
      some [.response 0x31] := by decide
theorem test_rdTstat_released :
    (stateOf (exec .rdTstat { running with tdeb := 4 })).map (fun t => t.obs) = some [.response 0x40] := by decide
theorem test_rdTsamplel :
    (stateOf (exec .rdTsamplel { running with tsample := 520 })).map (fun t => t.obs) =
      some [.response 0x08] := by decide
theorem test_rdTsampleh :
    (stateOf (exec .rdTsampleh { running with tsample := 520 })).map (fun t => t.obs) =
      some [.response 0x02] := by decide
theorem test_rdTbasel :
    (stateOf (exec .rdTbasel { running with tbase := 500 })).map (fun t => t.obs) = some [.response 0xF4] := by decide
theorem test_rdTbaseh :
    (stateOf (exec .rdTbaseh { running with tbase := 500 })).map (fun t => t.obs) = some [.response 0x01] := by decide
theorem test_rdFlags :
    (stateOf (exec .rdFlags { running with tickPend := true })).map (fun t => (t.obs, t.tickPend)) =
      some ([.response 0x0A], true) := by decide
theorem test_rdFlags_all :
    (stateOf (exec .rdFlags { running with tickPend := true, motionPend := true, scanPend := true })).map
      (fun t => t.obs) = some [.response 0x0F] := by decide

/-! ## The machine's own moves -/

/-- V12.1: the reset step. -/
theorem test_reset_step :
    (stateOf (step State.reset)).map (fun t => (t.phase, t.seq, t.led, t.count)) =
      some (.cal, .busy (.cal .l1), 0x00, 0) := by decide

/-- V10.7 as the first instruction after reset (log entry 15). -/
theorem test_withFetchWord :
    (stateOf (step (State.reset.withFetchWord 16 0x0C00))).map (fun t => t.obs) = some [.response 0x08] := by decide

/-- V12.3: under a fixed order the tick's service goes first, and the offered read waits. -/
theorem test_priority :
    (stateOf (step { running with
      cfg := { Config.default with priority := .order .motion .tick .scan }, tickPend := true,
      offered := some 0x0600 })).map (fun t => (t.seq, t.offered)) =
      some (.busy (.tick .k0), some 0x0600) := by decide

/-- V12.6: nothing pending and nothing offered: the sequencer sleeps. -/
theorem test_sleep : (stateOf (step running)).map (fun t => t.seq) = some .sleep := by decide

/-- R404, R406: the stage holds the byte sent. -/
theorem test_spi_done :
    (stateOf (step { running with
      seq := .busy (.motion (.transfer .t4)), sr := 0xFF, spiData := 0x5A, spiBusy := true, inputs := spi })).map
      (fun t => (t.sr, t.spiTc)) = some (0x5A, true) := by decide

/-- V3.9: an edge during CAL is latched. -/
theorem test_edge_in_cal :
    (stateOf (step { State.reset with
      phase := .cal, seq := .busy (.cal .l1), inputs := [atOnce (.pin false)] })).map (fun t => t.motionPend) =
      some true := by decide

/-- V4.2 and V4.3: K2 re-arms, K4 counts down. -/
theorem test_tick_statements :
    (tickStep .k2 { running with count := 3 }).count = 5 ∧ (tickStep .k4 { running with count := 5 }).count = 4 := by
  decide

/-- V4.4: at expiry the motion strips go out and the manual one stays. -/
theorem test_tick_expiry :
    (tickStep .k6 { running with led := 0x8F, mmask := 0x0F }).seq = .busy (.tick (.transfer (.t1 0x80))) := by decide

/-- V3.1: the motion service transfers `LED | MMASK`. -/
theorem test_motion_transfer :
    (motionStep .m1 { running with led := 0x80, mmask := 0x0F }).seq = .busy (.motion (.transfer (.t1 0x8F))) := by
  decide

/-- V5.2, V5.3, V5.5, V5.6, V5.8, V5.9, V5.11. -/
theorem test_classify :
    classify Config.default 499 500 = false ∧ classify Config.default 500 500 = false ∧
    classify Config.default 519 500 = false ∧ classify Config.default 520 500 = true ∧
    classify { Config.default with threshold := 0 } 500 500 = false ∧
    classify { Config.default with threshold := 0 } 501 500 = true ∧
    classify { Config.default with threshold := 0 } 1023 1023 = false := by decide

/-- V6.5: 64449 over 64 readings; V6.2: 2016 over 64. -/
theorem test_filtered_shift :
    (filterStep .f4 { running with acc := 64449 }).2.tsample = 1007 ∧
    (filterStep .f4 { running with acc := 2016 }).2.tsample = 31 := by decide

/-- V7.1 and V7.7: the fifth disagreeing tick commits; with 16 the sixteenth. -/
theorem test_debounce :
    debounceReached Config.default 3 = false ∧ debounceReached Config.default 4 = true ∧
    debounceReached { Config.default with touchDebounce := 16 } 14 = false ∧
    debounceReached { Config.default with touchDebounce := 16 } 15 = true := by decide

/-- V7.8 to V7.11. -/
theorem test_commit :
    commitValue { running with tstate := true, led := 0x80 } = 0xFF ∧ commitValue { running with led := 0x8F } = 0x00 ∧
    commitValue { running with cfg := { Config.default with touchAction := .toggle }, tstate := true, led := 0x80 } =
      0x7F ∧
    commitValue { running with cfg := { Config.default with touchAction := .toggle }, led := 0x8F } = 0x70 := by
  decide

/-- V8.1, V8.2, V8.5, V8.12 and V8.3, V8.4, V8.6. -/
theorem test_baseline :
    baselineUp Config.default 628 500 = 501 ∧ baselineUp Config.default 627 500 = 500 ∧
    baselineUp Config.default 1023 500 = 504 ∧ baselineUp { Config.default with baselineShift := 0 } 600 500 = 600 ∧
    baselineDown Config.default 372 500 = 499 ∧ baselineDown Config.default 373 500 = 500 ∧
    baselineDown Config.default 0 500 = 497 := by decide

/-- V9.1, V9.2 and V9.3: the floor of the mean of 16 filtered samples. -/
theorem test_calibration_mean :
    (calStep .l5 { State.reset with cacc := 7808 }).tbase = 488 ∧
    (calStep .l5 { State.reset with cacc := 7695 }).tbase = 480 ∧
    (calStep .l5 { State.reset with cacc := 7806 }).tbase = 487 := by decide

/-- P2's lines 1, 2 and 10, and R311's pseudo-instructions, as text. -/
theorem test_assemble :
    assemble "MMASK.EN 0x0F".toList = some (.mmaskEn 0x0F) ∧
    assemble "  LED.SET 128 ; the manual strip".toList = some (.ledSet 0x80) ∧
    assemble "RD.COUNT".toList = some .rdCount ∧ assemble "RELATCH".toList = some (.ledSet 0x00) ∧
    assemble "CLRB 0b00001111".toList = some (.ledClr 0x0F) ∧ assemble "LED.SET 256".toList = none := by decide

/-- R312's lines. -/
theorem test_script :
    scriptLine "@spi".toList = some .spiDone ∧ scriptLine "@pin 0".toList = some (.pin false) ∧
    scriptLine "@adc 480".toList = some (.adcDone 480) ∧
    scriptLine "@run TICK_SVC".toList = some (.run (.service .tick)) ∧
    scriptLine "RD.FLAGS".toList = some (.offer 0x0C00) := by decide

/-! ## Witnesses: for each statement with hypotheses, states and operands that meet all of them together, one for each
clause. -/

/-- No coming event happens while the sequencer moves, of a list given by its first entry. -/
theorem patient_of {l : List Input} (h : (l.head?.map (fun i => decide (i.due = .atRest))).getD true = true) :
    Patient l := by
  intro i hi
  simpa [hi] using h

theorem ready_of {s : State} (h : (s.cfg.legal && decide (s.phase = .run) && !s.isBusy) = true) : Ready s := by
  simp only [Bool.and_eq_true, decide_eq_true_eq, Bool.not_eq_true'] at h
  exact ⟨h.1.1, h.1.2, h.2⟩

theorem running_of {s : State} {j : Job} (h : (s.cfg.legal && decide (s.phase = .run)) = true)
    (hj : s.seq = .busy j) : Running j s := by
  simp only [Bool.and_eq_true, decide_eq_true_eq] at h
  exact ⟨h.1, h.2, hj⟩

/-- The job `j` in progress in phase RUN. -/
def inJob (j : Job) (l : List Input) : State := { running with seq := .busy j, inputs := l }

/-- A small legal configuration: one reading per sample, two samples to calibrate. -/
def small : Config := { Config.default with scanSamples := 1, sampleShift := 0, calSamples := 2 }

theorem test_witness_EncodeOfDecode :
    (decode 0x00FF#13 = .instr .rdLed ∧ fieldW 0x00FF#13 = false) ∧
    (decode 0x15FF#13 = .instr (.mmaskDis 0xFF) ∧ fieldW 0x15FF#13 = true) := by decide

theorem test_witness_ReservedEncodings :
    (fieldW 0x1600#13 = true ∧ (fieldA 0x1600#13).toNat = 6) ∧ (fieldW 0x1FFF#13 = true ∧ (fieldA 0x1FFF#13).toNat = 15) ∧
    (fieldW 0x0D00#13 = false ∧ (fieldA 0x0D00#13).toNat = 13) ∧
    (fieldW 0x15FF#13 = true ∧ (fieldA 0x15FF#13).toNat = 5) := by decide

theorem test_witness_DataNeverSelects : decode (word true 0x6 0x00) = .reserved true 0x6 ∧
    decode (word false 0xF 0x00) = .reserved false 0xF := by decide

/-- An offered transaction that is the only candidate, or that is prescribed beside a pending tick. -/
theorem test_witness_StepRunsTransaction_only :
    let s : State := { running with offered := some 0x0600, inputs := [⟨.after 1, .tick⟩] }
    Ready s ∧ s.offered = some 0x0600 ∧ decode 0x0600#13 = .instr .rdCount ∧ s.candidates = [.host] ∧ SequencerTurn s :=
  ⟨ready_of (by decide), rfl, by decide, by decide, by unfold SequencerTurn; decide⟩

theorem test_witness_StepRunsTransaction_prescribed :
    let s : State := { running with offered := some 0x0600, tickPend := true, inputs := [atOnce (.run .host)] }
    Ready s ∧ s.offered = some 0x0600 ∧ decode 0x0600#13 = .instr .rdCount ∧ Pick.host ∈ s.candidates ∧
      s.inputs = atOnce (.run .host) :: [] :=
  ⟨ready_of (by decide), rfl, by decide, by decide, rfl⟩

theorem test_witness_StepRunsTransaction_fetch :
    State.reset.cfg.legal = true ∧ decodeTableWord 13 0x1FF = none ∧
      decodeTableWord 13 0x15FF = some (.mmaskDis 0xFF) := by decide

theorem test_witness_ReservedRefused :
    let s : State := { running with offered := some 0x1600 }
    let s' : State := { running with offered := some 0x0D00, inputs := [atOnce (.run .host)] }
    (Ready s ∧ s.offered = some 0x1600 ∧ (fieldW 0x1600#13 = true ∧ 6 ≤ (fieldA 0x1600#13).toNat) ∧
      s.candidates = [.host] ∧ SequencerTurn s) ∧
    (Ready s' ∧ s'.offered = some 0x0D00 ∧
      (fieldW 0x0D00#13 = false ∧ (fieldA 0x0D00#13).toNat ∈ [1, 2, 3, 5, 13, 14, 15]) ∧
      Pick.host ∈ s'.candidates ∧ s'.inputs = atOnce (.run .host) :: []) :=
  ⟨⟨ready_of (by decide), rfl, by decide, by decide, by unfold SequencerTurn; decide⟩,
    ⟨ready_of (by decide), rfl, by decide, by decide, rfl⟩⟩

theorem test_witness_IllegalConfigRefused :
    Config.default.legal = true ∧ small.legal = true ∧
    ({ Config.default with timeoutSec := 255, threshold := 65535, touchDebounce := 16, baselineShift := 15,
                           calSamples := 64, adcBits := 1, priority := .order .scan .tick .motion } : Config).legal = true ∧
    ({ Config.default with adcBits := 11 } : Config).legal = false := by decide

theorem test_witness_TransactionWaits_cal :
    let s : State := { State.reset with phase := .cal, seq := .busy (.cal .l1), offered := some 0x0C00 }
    s.phase ≠ .run ∧ s.offered = some 0x0C00 ∧ ∃ u, step s = .next u :=
  ⟨by decide, rfl, _, rfl⟩

theorem test_witness_TransactionWaits_issued :
    let s : State := inJob (.scan .c0) []
    State.reset.cfg.legal = true ∧ State.reset.phase ≠ .run ∧ s.cfg.legal = true ∧ s.isBusy = true := by decide

/-- The hypotheses of the four LED statements: the completion coming, then nothing or a patient event; or none. -/
theorem test_witness_LedAssignEffect :
    let s : State := { running with led := 0x0F, inputs := [lazily .spiDone, lazily .tick] }
    Ready s ∧ SpiIdle s ∧ s.inputs = lazily .spiDone :: [lazily .tick] ∧ Patient [lazily .tick] ∧
      Ready running ∧ SpiIdle running ∧ running.inputs = [] :=
  ⟨ready_of (by decide), ⟨rfl, rfl, rfl⟩, rfl, patient_of (by decide), ready_of (by decide), ⟨rfl, rfl, rfl⟩, rfl⟩

theorem test_witness_LedSetEffect :
    let s : State := { running with led := 0x0F, seq := .sleep, inputs := [lazily .spiDone] }
    Ready s ∧ SpiIdle s ∧ s.inputs = lazily .spiDone :: [] ∧ Patient [] ∧
      Ready running ∧ SpiIdle running ∧ running.inputs = [] :=
  ⟨ready_of (by decide), ⟨rfl, rfl, rfl⟩, rfl, patient_of (by decide), ready_of (by decide), ⟨rfl, rfl, rfl⟩, rfl⟩

theorem test_witness_LedClrEffect :
    let s : State := { running with led := 0x3F, inputs := [lazily .spiDone] }
    Ready s ∧ SpiIdle s ∧ s.inputs = lazily .spiDone :: [] ∧ Patient [] ∧
      Ready running ∧ SpiIdle running ∧ running.inputs = [] :=
  ⟨ready_of (by decide), ⟨rfl, rfl, rfl⟩, rfl, patient_of (by decide), ready_of (by decide), ⟨rfl, rfl, rfl⟩, rfl⟩

theorem test_witness_LedTglEffect :
    let s : State := { running with led := 0x33, inputs := [lazily .spiDone, lazily (.offer 0x0600)] }
    Ready s ∧ SpiIdle s ∧ s.inputs = lazily .spiDone :: [lazily (.offer 0x0600)] ∧ Patient [lazily (.offer 0x0600)] ∧
      Ready running ∧ SpiIdle running ∧ running.inputs = [] :=
  ⟨ready_of (by decide), ⟨rfl, rfl, rfl⟩, rfl, patient_of (by decide), ready_of (by decide), ⟨rfl, rfl, rfl⟩, rfl⟩

/-- Events in the middle of the transfer, with and without a completion among them. -/
theorem test_witness_LedWriteCompletesOrHangs :
    let s : State := { running with inputs := [⟨.after 2, .pin false⟩, ⟨.after 3, .spiDone⟩, atOnce .tick] }
    Ready s ∧ SpiIdle s ∧ AdcIdle s ∧ ledValue s.led (.ledSet 0x80) = some 0x80 ∧
      (stateOf (exec (.ledSet 0x80) s)).map (fun t => (t.seq, t.q, t.motionPend)) = some (.idle, 0x80, true) ∧
      (stateOf (exec (.ledSet 0x80) { s with inputs := [⟨.after 9, .tick⟩] })).map (fun t => (t.isBusy, t.q, t.tickPend)) =
        some (true, 0x00, true) :=
  ⟨ready_of (by decide), ⟨rfl, rfl, rfl⟩, ⟨rfl, rfl⟩, by decide, by decide, by decide⟩

/-- W1, with the first two lines of P1. -/
theorem test_witness_LedSequenceLaw :
    let s : State := { running with inputs := [lazily .spiDone, lazily .spiDone] }
    (∀ i ∈ [Instr.ledAssign 0x5A, .ledTgl 0xFF], (ledValue 0 i).isSome = true) ∧ Ready s ∧ SpiIdle s ∧
      s.inputs = List.replicate 2 (lazily .spiDone) ∧ ledValues 0x00 [.ledAssign 0x5A, .ledTgl 0xFF] = [0x5A, 0xA5] :=
  ⟨by decide, ready_of (by decide), ⟨rfl, rfl, rfl⟩, rfl, by decide⟩

theorem test_witness_SpiDoneEffect :
    let s : State := { inJob (.tick (.transfer .t4)) [atOnce .spiDone] with spiBusy := true }
    (s.cfg.legal = true ∧ s.inputs = atOnce .spiDone :: [] ∧ s.spiBusy = true) ∧
    (({ running with inputs := [atOnce .spiDone] } : State).spiBusy = false) := by decide

theorem test_witness_HangStaysPut :
    let s := inJob (.motion (.transfer .t4)) []
    let c : State := { State.reset with phase := .cal, seq := .busy (.cal (.filter (.shot .s7))) }
    (s.cfg.legal = true ∧ s.phase ≠ .reset ∧ s.seq = .busy (.motion (.transfer .t4)) ∧ s.inputs = [] ∧ s.spiTc = false) ∧
    ((inJob (.host (.ledSet 0) (.transfer .t4)) []).spiTc = false) ∧
    (c.cfg.legal = true ∧ c.phase ≠ .reset ∧ c.seq = .busy (.cal (.filter (.shot .s7))) ∧ c.inputs = [] ∧
      c.adcResRdy = false) := by decide

theorem test_witness_MaskWriteEffect :
    let s : State := { running with mmask := 0x03, inputs := [⟨.after 0, .tick⟩, lazily (.pin false)] }
    let s' : State := { running with mmask := 0x0F, inputs := [lazily .tick] }
    (Ready s ∧ SpiIdle s ∧ AdcIdle s ∧ maskValue s.mmask (.mmaskEn 0x0C) = some 0x0F) ∧
    (Ready s' ∧ SpiIdle s' ∧ AdcIdle s' ∧ maskValue s'.mmask (.mmaskDis 0x01) = some 0x0E ∧ Patient s'.inputs) :=
  ⟨⟨ready_of (by decide), ⟨rfl, rfl, rfl⟩, ⟨rfl, rfl⟩, by decide⟩,
    ⟨ready_of (by decide), ⟨rfl, rfl, rfl⟩, ⟨rfl, rfl⟩, by decide, patient_of (by decide)⟩⟩

/-- `MMASK` changes by the reset step, by a transaction the sequencer takes, and by a transaction's own statement. -/
theorem test_witness_MaskWrittenOnlyByHost :
    (∃ t, step { State.reset with mmask := 0x01 } = .next t ∧ t.mmask ≠ 0x01) ∧
    (∃ t, step { running with offered := some 0x140F } = .next t ∧ t.mmask ≠ 0x00) ∧
    (∃ t, step (inJob (.host (.mmaskEn 0x0F) .body) []) = .next t ∧ t.mmask ≠ 0x00) :=
  ⟨⟨_, rfl, by decide⟩, ⟨_, rfl, by decide⟩, ⟨_, rfl, by decide⟩⟩

theorem test_witness_ReadEffect :
    let s : State := { running with count := 4, tbase := 500, inputs := [⟨.after 0, .pin false⟩] }
    (Ready s ∧ SpiIdle s ∧ AdcIdle s ∧ readValue s .rdCount = some 0x04 ∧ readValue s .rdTbaseh = some 0x01) ∧
    (Ready running ∧ SpiIdle running ∧ AdcIdle running ∧ readValue running .rdLed = some 0x00 ∧ Patient running.inputs) :=
  ⟨⟨ready_of (by decide), ⟨rfl, rfl, rfl⟩, ⟨rfl, rfl⟩, by decide, by decide⟩,
    ⟨ready_of (by decide), ⟨rfl, rfl, rfl⟩, ⟨rfl, rfl⟩, by decide, patient_of (by decide)⟩⟩

theorem test_witness_TstatLayout :
    let s : State := { running with tstate := true, tdeb := 4, inputs := [atOnce .scan] }
    Ready s ∧ SpiIdle s ∧ AdcIdle s ∧ Inv s :=
  ⟨ready_of (by decide), ⟨rfl, rfl, rfl⟩, ⟨rfl, rfl⟩, ⟨by decide, by decide, by decide, by decide, by decide, by decide,
    rfl, ⟨⟨rfl, rfl, rfl⟩, ⟨rfl, rfl⟩, fun ⟨v, hv⟩ => (by cases hv)⟩, fun p h => (by cases h), fun h => (by cases h)⟩⟩

/-- A tick arriving just before the read, and none. -/
theorem test_witness_FlagsRead :
    let s : State := { running with inputs := [atOnce .tick] }
    (Ready s ∧ SpiIdle s ∧ AdcIdle s ∧ (stateOf (exec .rdFlags s)).map (fun t => t.obs) = some [.response 0x0A]) ∧
    (Ready running ∧ SpiIdle running ∧ AdcIdle running ∧ Patient running.inputs) :=
  ⟨⟨ready_of (by decide), ⟨rfl, rfl, rfl⟩, ⟨rfl, rfl⟩, by decide⟩,
    ⟨ready_of (by decide), ⟨rfl, rfl, rfl⟩, ⟨rfl, rfl⟩, patient_of (by decide)⟩⟩

theorem test_witness_HalfReadAsBytePair :
    let s : State := { running with tbase := 0x03FF, tsample := 0x0208 }
    Ready s ∧ Patient s.inputs :=
  ⟨ready_of (by decide), patient_of (by decide)⟩

/-- In each phase, with a falling edge. -/
theorem test_witness_PinEffect :
    let s (p : Phase) : State := { State.reset with phase := p, inputs := [atOnce (.pin false)] }
    ((s .run).cfg.legal = true ∧ (s .run).inputs = atOnce (.pin false) :: [] ∧ (s .run).motionN = true) ∧
    (stateOf (step (s .run))).map (fun t => t.motionPend) = some true ∧
    (stateOf (step (s .reset))).map (fun t => t.motionPend) = some false := by decide

theorem test_witness_MotionServiceEffect :
    let s : State := { inJob (.motion .m0) [lazily .spiDone] with led := 0x80, mmask := 0x0F, motionPend := true }
    Running (.motion .m0) s ∧ SpiIdle s ∧ s.inputs = lazily .spiDone :: [] ∧ Patient [] :=
  ⟨running_of (by decide) rfl, ⟨rfl, rfl, rfl⟩, rfl, patient_of (by decide)⟩

theorem test_witness_EdgeDuringMotionService :
    let s (f : FlagClearAt) : State :=
      { inJob (.motion .m0) [lazily (.pin true), lazily (.pin false), lazily .spiDone] with
        cfg := { Config.default with flagClearAt := f }, motionN := false, motionPend := true }
    ∀ f, Running (.motion .m0) (s f) ∧ SpiIdle (s f) ∧
      (s f).inputs = lazily (.pin true) :: lazily (.pin false) :: lazily .spiDone :: [] ∧ Patient [] := by
  intro s f
  exact ⟨running_of (by cases f <;> decide) rfl, ⟨rfl, rfl, rfl⟩, rfl, patient_of (by decide)⟩

theorem test_witness_TickSourcesOnlyInRun :
    (running.cfg.legal = true ∧ running.phase = .run ∧ ({ running with inputs := [atOnce .tick] } : State).inputs =
      atOnce .tick :: [] ∧ ({ running with inputs := [atOnce .scan] } : State).inputs = atOnce .scan :: []) ∧
    (State.reset.phase ≠ .run ∧ ∃ t, step State.reset = .next t) ∧
    ({ State.reset with inputs := [atOnce .scan] } : State).inputs = atOnce .scan :: [] :=
  ⟨by decide, ⟨by decide, _, rfl⟩, rfl⟩

/-- V4.1, V4.5, V4.8: the sensor active, no countdown, and a countdown short of its end. -/
theorem test_witness_TickServiceCounts :
    let s (level : Bool) (c : Byte) : State := { inJob (.tick .k0) [] with motionN := level, count := c }
    (Running (.tick .k0) (s false 5) ∧ Patient (s false 5).inputs ∧ ¬ ((s false 5).motionN = true ∧ (s false 5).count = 1#8)) ∧
    (Running (.tick .k0) (s true 0) ∧ Patient (s true 0).inputs ∧ ¬ ((s true 0).motionN = true ∧ (s true 0).count = 1#8)) ∧
    (Running (.tick .k0) (s true 2) ∧ Patient (s true 2).inputs ∧ ¬ ((s true 2).motionN = true ∧ (s true 2).count = 1#8)) :=
  ⟨⟨running_of (by decide) rfl, patient_of (by decide), by decide⟩,
    ⟨running_of (by decide) rfl, patient_of (by decide), by decide⟩,
    ⟨running_of (by decide) rfl, patient_of (by decide), by decide⟩⟩

/-- V4.4. -/
theorem test_witness_TickServiceExpires :
    let s : State := { inJob (.tick .k0) [lazily .spiDone] with motionN := true, count := 1, led := 0x8F, mmask := 0x0F }
    Running (.tick .k0) s ∧ SpiIdle s ∧ s.motionN = true ∧ s.count = 1#8 ∧ s.inputs = lazily .spiDone :: [] ∧ Patient [] :=
  ⟨running_of (by decide) rfl, ⟨rfl, rfl, rfl⟩, rfl, rfl, rfl, patient_of (by decide)⟩

/-- With `TIMEOUT_SEC` 1: `COUNT` set at M2, or at K2, and the one tick service that counts it down. -/
theorem test_witness_TimeoutNeedsInactiveTicks_run :
    let s (j : Job) : State := { inJob j [lazily .tick] with cfg := { Config.default with timeoutSec := 1 } }
    ((s (.motion .m2)).phase = .run ∧ (s (.motion .m2)).seq = .busy (.motion .m2) ∧
      ∃ t u n, countedRun 8 (s (.motion .m2)) 0 = some (t, n) ∧ step t = .next u ∧ t.count ≠ 0#8 ∧ u.count = 0#8) ∧
    ((s (.tick .k2)).phase = .run ∧ (s (.tick .k2)).seq = .busy (.tick .k2) ∧
      ∃ t u n, countedRun 8 (s (.tick .k2)) 0 = some (t, n) ∧ step t = .next u ∧ t.count ≠ 0#8 ∧ u.count = 0#8) :=
  ⟨⟨rfl, rfl, _, _, _, rfl, rfl, by decide, by decide⟩, ⟨rfl, rfl, _, _, _, rfl, rfl, by decide, by decide⟩⟩

theorem test_witness_TimeoutNeedsInactiveTicks :
    (1 ≤ 2 ∧ [true, false, true, true].foldl (tickCount 2) 2 = 0) ∧ (1 ≤ 1 ∧ [true].foldl (tickCount 1) 1 = 0) := by
  decide

/-- P5's start. -/
theorem test_witness_MotionThenTimeout :
    let s : State := { running with
      mmask := 0xFF,
      inputs := [lazily (.pin false), lazily .spiDone, lazily (.pin true)] ++ servedTicks 4 ++
        (servedTicks 1 ++ lazily .spiDone :: []) }
    Ready s ∧ SpiIdle s ∧ s.offered = none ∧ s.mmask = 0xFF#8 ∧ s.motionN = true ∧ s.motionPend = false ∧
      s.tickPend = false ∧ s.scanPend = false ∧
      s.inputs = [lazily (.pin false), lazily .spiDone, lazily (.pin true)] ++ servedTicks (s.cfg.timeoutSec - 1) ++
        (servedTicks 1 ++ lazily .spiDone :: []) ∧ Patient [] :=
  ⟨ready_of (by decide), ⟨rfl, rfl, rfl⟩, rfl, rfl, rfl, rfl, rfl, rfl, rfl, patient_of (by decide)⟩

theorem test_witness_ClassifyBoundary : Config.default.threshold = 20 ∧ classify Config.default 1023 500 = true ∧
    classify { Config.default with threshold := 0 } 500 500 = false := by decide

theorem test_witness_AdcDoneEffect :
    let s : State := { inJob (.scan (.filter (.shot .s7))) [atOnce (.adcDone 1023)] with adcBusy := true }
    (s.cfg.legal = true ∧ s.inputs = atOnce (.adcDone 1023) :: [] ∧ s.adcBusy = true ∧
      (1023#10).toNat < 2 ^ s.cfg.adcBits) ∧
    ({ running with inputs := [atOnce (.adcDone 0)] } : State).adcBusy = false := by decide

/-- V6.7: the readings 3, 3, 3, 4. -/
theorem test_witness_FilteredSampleMean :
    let s : State := { inJob (.scan (.filter .f1)) (conversions [3, 3, 3, 4] ++ [lazily .tick]) with
      cfg := { Config.default with scanSamples := 4, sampleShift := 2 } }
    Running (.scan (.filter .f1)) s ∧ AdcIdle s ∧ [3#10, 3, 3, 4].length = s.cfg.scanSamples ∧
      (∀ r ∈ [3#10, 3, 3, 4], r.toNat ≤ maxReading s.cfg) ∧ s.inputs = conversions [3, 3, 3, 4] ++ [lazily .tick] ∧
      Patient [lazily .tick] ∧ filtered [3, 3, 3, 4] = 3 :=
  ⟨running_of (by decide) rfl, ⟨rfl, rfl⟩, rfl, by decide, rfl, patient_of (by decide), by decide⟩

/-- V7.5 and the last tick of V7.2 (agreeing), and R502's second case (disagreeing, short of the threshold). -/
theorem test_witness_ScanServiceNoCommit :
    let s : State := { inJob (.scan .c2) [] with tsample := 500, tbase := 500, tdeb := 4 }
    let s' : State := { inJob (.scan .c2) [] with tsample := 628, tbase := 500 }
    (Running (.scan .c2) s ∧ Patient s.inputs ∧ false = classify s.cfg s.tsample s.tbase ∧ false = s.tstate) ∧
    (Running (.scan .c2) s' ∧ Patient s'.inputs ∧ true = classify s'.cfg s'.tsample s'.tbase ∧
      s'.tdeb.toNat + 1 < s'.cfg.touchDebounce) :=
  ⟨⟨running_of (by decide) rfl, patient_of (by decide), by decide, by decide⟩,
    ⟨running_of (by decide) rfl, patient_of (by decide), by decide, by decide⟩⟩

/-- R502's first case (a touch), and a release. -/
theorem test_witness_ScanServiceCommit :
    let s : State := { inJob (.scan .c2) [lazily .spiDone] with tsample := 628, tbase := 500, tdeb := 4 }
    let s' : State := { inJob (.scan .c2) [lazily .spiDone] with tsample := 500, tbase := 500, tdeb := 4, tstate := true }
    (Running (.scan .c2) s ∧ SpiIdle s ∧ s.inputs = lazily .spiDone :: [] ∧ Patient [] ∧
      true = classify s.cfg s.tsample s.tbase ∧ true ≠ s.tstate ∧ s.cfg.touchDebounce ≤ s.tdeb.toNat + 1) ∧
    (Running (.scan .c2) s' ∧ SpiIdle s' ∧ s'.inputs = lazily .spiDone :: [] ∧ Patient [] ∧
      false = classify s'.cfg s'.tsample s'.tbase ∧ false ≠ s'.tstate ∧ s'.cfg.touchDebounce ≤ s'.tdeb.toNat + 1) :=
  ⟨⟨running_of (by decide) rfl, ⟨rfl, rfl, rfl⟩, rfl, patient_of (by decide), by decide, by decide, by decide⟩,
    ⟨running_of (by decide) rfl, ⟨rfl, rfl, rfl⟩, rfl, patient_of (by decide), by decide, by decide, by decide⟩⟩

theorem test_witness_BaselineStepBounded :
    (627 < 500 + 2 ^ 7 ∧ 500 < 627 + 2 ^ 7) ∧ (500#16).toNat < (628#16).toNat ∧ (372#16).toNat < (500#16).toNat := by
  decide

/-- The invariant at a statement of a scan service outside its procedures. -/
theorem scan_inv {s : State} {p : ScanPos} (hj : s.seq = .busy (.scan p)) (hq : ScanOk s p) (hp : s.phase = .run)
    (h : (s.cfg.legal && decide (s.count.toNat ≤ s.cfg.timeoutSec) && decide (s.tsample.toNat ≤ maxReading s.cfg) &&
      decide (s.tbase.toNat ≤ maxReading s.cfg) && decide (s.adcRes.toNat ≤ maxReading s.cfg) &&
      decide (s.tdeb.toNat < s.cfg.touchDebounce) && !s.latch) = true) : Inv s := by
  simp only [Bool.and_eq_true, decide_eq_true_eq, Bool.not_eq_true'] at h
  obtain ⟨⟨⟨⟨⟨⟨h1, h2⟩, h3⟩, h4⟩, h5⟩, h6⟩, h7⟩ := h
  refine ⟨h1, h2, h3, h4, h5, h6, h7, ?_, ?_, ?_⟩
  · rw [hj]; exact hq
  · rw [hp]; intro p' h'; rw [hj] at h'; cases h'
  · intro hb; simp [State.hostBusy, hj] at hb

/-- V8.1 at statement A3, up, and V8.3 at statement A5, down. -/
theorem test_witness_BaselineFrozenWhileTouched :
    let s : State := { inJob (.scan .a3) [] with tsample := 628, tbase := 500 }
    let s' : State := { inJob (.scan .a5) [] with tsample := 372, tbase := 500 }
    (Inv s ∧ s.phase = .run ∧ ∃ t, step s = .next t ∧ t.tbase ≠ s.tbase) ∧
    (Inv s' ∧ s'.phase = .run ∧ ∃ t, step s' = .next t ∧ t.tbase ≠ s'.tbase) :=
  ⟨⟨scan_inv rfl ⟨⟨⟨rfl, rfl, rfl⟩, ⟨rfl, rfl⟩, fun ⟨v, hv⟩ => (by cases hv)⟩, rfl, by decide⟩ rfl (by decide), rfl, _,
      rfl, by decide⟩,
    ⟨scan_inv rfl ⟨⟨⟨rfl, rfl, rfl⟩, ⟨rfl, rfl⟩, fun ⟨v, hv⟩ => (by cases hv)⟩, rfl, by decide⟩ rfl (by decide), rfl, _,
      rfl, by decide⟩⟩

/-- The calibration of two samples of one reading. -/
theorem test_witness_CalibrationSeedsBaseline :
    let s : State := { State.reset with
      cfg := small, phase := .cal, seq := .busy (.cal .l1), inputs := conversions [480, 497] ++ [lazily .tick] }
    s.cfg.legal = true ∧ s.phase = .cal ∧ s.seq = .busy (.cal .l1) ∧ AdcIdle s ∧
      [[480#10], [497]].length = s.cfg.calSamples ∧
      (∀ rs ∈ [[480#10], [497]], rs.length = s.cfg.scanSamples ∧ ∀ r ∈ rs, r.toNat ≤ maxReading s.cfg) ∧
      s.inputs = conversions [[480#10], [497]].flatten ++ [lazily .tick] ∧ Patient [lazily .tick] ∧
      seeded [[480], [497]] = 488 :=
  ⟨by decide, rfl, rfl, ⟨rfl, rfl⟩, rfl, by decide, rfl, patient_of (by decide), by decide⟩

theorem test_witness_ScanServiceLeavesMotionState :
    let s : State := inJob (.scan .b7) []
    s.phase ≠ .reset ∧ s.seq = .busy (.scan .b7) ∧ (∃ t, step s = .next t) ∧ SequencerTurn s :=
  ⟨by decide, rfl, ⟨_, rfl⟩, by unfold SequencerTurn; decide⟩

theorem test_witness_DispatchStartsService :
    let s : State := { running with scanPend := true, inputs := [⟨.after 1, .tick⟩] }
    let s' : State := { running with scanPend := true, tickPend := true, inputs := [atOnce (.run (.service .scan))] }
    (Ready s ∧ s.candidates = [.service .scan] ∧ SequencerTurn s) ∧
    (Ready s' ∧ Pick.service .scan ∈ s'.candidates ∧ s'.inputs = atOnce (.run (.service .scan)) :: []) :=
  ⟨⟨ready_of (by decide), by decide, by unfold SequencerTurn; decide⟩, ⟨ready_of (by decide), by decide, rfl⟩⟩

theorem test_witness_PriorityChoosesCandidates :
    let s : State := { running with
      cfg := { Config.default with priority := .order .scan .motion .tick }, motionPend := true, tickPend := true,
      inputs := [atOnce (.run (.service .tick))] }
    running.cfg.priority = .any ∧ s.cfg.priority = .order .scan .motion .tick ∧ Pick.service .tick ∉ s.candidates ∧
      s.inputs = atOnce (.run (.service .tick)) :: [] := by decide

/-- V12.2. -/
theorem test_witness_FreeChoiceIsACandidate :
    let s : State := { running with tickPend := true, scanPend := true }
    Ready s ∧ SequencerTurn s ∧ 2 ≤ s.candidates.length :=
  ⟨ready_of (by decide), by unfold SequencerTurn; decide, by decide⟩

/-- V12.4: a tick during a scan service held at S7; and the last statement of a job. -/
theorem test_witness_OneJobAtATime :
    let s : State := inJob (.scan (.filter (.shot .s7))) [lazily .tick]
    (s.phase ≠ .reset ∧ s.seq = .busy (.scan (.filter (.shot .s7))) ∧ ∃ t, step s = .next t) ∧
    (∃ t, step (inJob (.motion .m4) []) = .next t ∧ t.seq = .idle) :=
  ⟨⟨by decide, rfl, _, rfl⟩, ⟨_, rfl, rfl⟩⟩

theorem test_witness_FlagClearedOnlyByItsService :
    let s : State := { inJob (.scan .c0) [] with scanPend := true }
    let s' : State := { inJob (.tick .k7) [] with cfg := { Config.default with flagClearAt := .exit }, tickPend := true }
    (s.phase ≠ .reset ∧ s.pending .scan = true ∧ ∃ t, step s = .next t ∧ t.pending .scan = false) ∧
    (s'.phase ≠ .reset ∧ s'.pending .tick = true ∧ ∃ t, step s' = .next t ∧ t.pending .tick = false) ∧
    (s.cfg.legal = true ∧ SequencerTurn s ∧ s.cfg.flagClearAt = .entry ∧ s.seq = .busy (serviceEntry .scan)) ∧
    (s'.cfg.legal = true ∧ SequencerTurn s' ∧ s'.cfg.flagClearAt = .exit ∧ s'.seq = .busy (exitClear .tick)) :=
  ⟨⟨by decide, rfl, _, rfl, rfl⟩, ⟨by decide, rfl, _, rfl, rfl⟩, ⟨by decide, by unfold SequencerTurn; decide, rfl, rfl⟩,
    ⟨by decide, by unfold SequencerTurn; decide, rfl, rfl⟩⟩

theorem test_witness_LedWrittenOnlyByTransfer :
    (∃ t, step { State.reset with led := 0x01 } = .next t ∧ t.led ≠ 0x01) ∧
    (∃ t, step (inJob (.motion (.transfer (.t1 0x0F))) []) = .next t ∧ t.led ≠ 0x00) ∧
    (∃ t, step { running with offered := some 0x10A0 } = .next t ∧ t.led ≠ 0x00) :=
  ⟨⟨_, rfl, by decide⟩, ⟨_, rfl, by decide⟩, ⟨_, rfl, by decide⟩⟩

/-- `Q` at T6 of a commit and by an executed LED write, which writes the stage as well; `SR` by `SPI_DONE` at T4. -/
theorem test_witness_OutputsWrittenOnlyByTransfer :
    let s : State := { inJob (.scan (.transfer .t6)) [] with spiEn := true, led := 0xFF, sr := 0xFF }
    let s' : State := { inJob (.scan (.transfer .t4)) [lazily .spiDone] with
      spiEn := true, spiBusy := true, led := 0xFF, spiData := 0xFF }
    let s'' : State := { running with offered := some 0x10A0, inputs := [lazily .spiDone] }
    (Inv s ∧ ∃ t, step s = .next t ∧ t.q ≠ s.q) ∧ (Inv s' ∧ ∃ t, step s' = .next t ∧ t.sr ≠ s'.sr) ∧
    (Inv s'' ∧ ∃ t, step s'' = .next t ∧ t.q ≠ s''.q ∧ t.sr ≠ s''.sr) :=
  ⟨⟨scan_inv rfl ⟨⟨rfl, rfl, rfl, rfl⟩, ⟨rfl, rfl⟩⟩ rfl (by decide), _, rfl, by decide⟩,
    ⟨scan_inv rfl ⟨⟨rfl, .inl ⟨rfl, rfl, rfl⟩⟩, ⟨rfl, rfl⟩⟩ rfl (by decide), _, rfl, by decide⟩,
    ⟨⟨by decide, by decide, by decide, by decide, by decide, by decide, rfl,
      ⟨⟨rfl, rfl, rfl⟩, ⟨rfl, rfl⟩, fun ⟨v, hv⟩ => (by cases hv)⟩, fun p h => (by cases h), fun h => (by cases h)⟩, _,
      rfl, by decide, by decide⟩⟩

theorem test_witness_CountWrittenOnlyByServices :
    (∃ t, step { State.reset with count := 1 } = .next t ∧ t.count ≠ 1) ∧
    (∃ t, step (inJob (.motion .m2) []) = .next t ∧ t.count ≠ 0) ∧
    (∃ t, step (inJob (.tick .k2) []) = .next t ∧ t.count ≠ 0) ∧
    (∃ t, step { inJob (.tick .k4) [] with count := 1 } = .next t ∧ t.count ≠ 1) :=
  ⟨⟨_, rfl, by decide⟩, ⟨_, rfl, by decide⟩, ⟨_, rfl, by decide⟩, ⟨_, rfl, by decide⟩⟩

theorem test_witness_PhaseNeverGoesBack :
    (∃ t, step State.reset = .next t ∧ t.phase ≠ State.reset.phase) ∧
    (∃ t, step { State.reset with phase := .cal, seq := .busy (.cal .l7) } = .next t ∧ t.phase ≠ .cal) :=
  ⟨⟨_, rfl, by decide⟩, ⟨_, rfl, by decide⟩⟩

theorem test_witness_SleepIsUnobservable :
    let s : State := { running with seq := .sleep, tickPend := true }
    (Ready running ∧ SequencerTurn running ∧ running.candidates = []) ∧
    (s.cfg.legal = true ∧ s.phase = .run ∧ s.seq = .sleep ∧ SequencerTurn s ∧ s.candidates ≠ []) :=
  ⟨⟨ready_of (by decide), by unfold SequencerTurn; decide, by decide⟩,
    ⟨by decide, rfl, rfl, by unfold SequencerTurn; decide, by decide⟩⟩

theorem test_witness_ObservationGrows :
    ∃ t, step { running with offered := some 0x0C00, obs := [.done] } = .next t ∧ t.obs = [.done, .response 0x08] :=
  ⟨_, rfl, by decide⟩

theorem test_witness_BootReachesRun :
    small.legal = true ∧ [[480#10], [497]].length = small.calSamples ∧
      (∀ rs ∈ [[480#10], [497]], rs.length = small.scanSamples ∧ ∀ r ∈ rs, r.toNat ≤ maxReading small) ∧
      Patient [lazily (.pin false)] :=
  ⟨by decide, rfl, by decide, patient_of (by decide)⟩

theorem test_witness_InvariantAtPowerUp : Config.default.legal = true ∧ small.legal = true := by decide

/-- The invariant inside a transfer whose completion is coming. -/
theorem test_witness_EveryStepKeepsInvariant :
    let s : State := { inJob (.host (.ledSet 0x01) (.transfer .t4)) [lazily .spiDone] with
      led := 0x01, spiEn := true, spiBusy := true, spiData := 0x01 }
    Inv s ∧ ∃ t, step s = .next t :=
  ⟨⟨by decide, by decide, by decide, by decide, by decide, by decide, rfl,
    ⟨⟨rfl, .inl ⟨rfl, rfl, rfl⟩⟩, ⟨rfl, rfl⟩⟩, fun p h => (by cases h), fun _ => rfl⟩, _, rfl⟩

end Sys2Proof.Tests
end

section
/-! Proofs of the statements of scope: the refused configurations, the invariant of every run, the observation, and the
jobs held at an await. -/

namespace Sys2Proof

/-- A legal order of the sources names every source (R11, R624). -/
theorem Priority.legal_iff {p : Priority} :
    p.legal = true ↔ ∀ x y z, p = .order x y z → ∀ src : Source, src = x ∨ src = y ∨ src = z := by
  cases p with
  | any => exact ⟨fun _ => nofun, fun _ => rfl⟩
  | order a b c =>
    constructor
    · rintro h x y z ⟨⟩ src
      revert h
      cases a <;> cases b <;> cases c <;> cases src <;> decide
    · intro h
      have hm := h a b c rfl .motion
      have ht := h a b c rfl .tick
      have hs := h a b c rfl .scan
      revert hm ht hs
      cases a <;> cases b <;> cases c <;> decide

/-- The legality check is the table of R11. -/
theorem Config.legal_iff {c : Config} : c.legal = true ↔
    (1 ≤ c.timeoutSec ∧ c.timeoutSec ≤ 255) ∧
    (∃ n, n ≤ 6 ∧ c.scanSamples = 2 ^ n ∧ c.sampleShift = n) ∧
    (1 ≤ c.calSamples ∧ c.calSamples ≤ 64) ∧ c.threshold ≤ 65535 ∧
    (1 ≤ c.touchDebounce ∧ c.touchDebounce ≤ 16) ∧ c.baselineShift ≤ 15 ∧
    (1 ≤ c.adcBits ∧ c.adcBits ≤ 10) ∧
    (∀ x y z, c.priority = .order x y z → ∀ src : Source, src = x ∨ src = y ∨ src = z) := by
  rw [← Priority.legal_iff]
  have hshift : (∃ n, n ≤ 6 ∧ c.scanSamples = 2 ^ n ∧ c.sampleShift = n) ↔
      c.sampleShift ≤ 6 ∧ c.scanSamples = 2 ^ c.sampleShift :=
    ⟨fun ⟨_, hn, hs, he⟩ => he ▸ ⟨hn, hs⟩, fun ⟨hn, hs⟩ => ⟨_, hn, hs, rfl⟩⟩
  simp only [Config.legal, Bool.and_eq_true, decide_eq_true_eq, hshift, and_assoc]

end Sys2Proof

namespace Sys2Proof.Machine

open Sys2Proof.Safety

/-! ## The refusals -/

/-- The sequencer's move is a state, or a dispatch of a state with the same parameters. -/
theorem sequencerMove_cases (s : State) :
    (∃ t, sequencerMove s = .go t) ∨ ∃ p t, sequencerMove s = dispatch p t ∧ t.cfg = s.cfg := by
  have hd : (∃ t, dispatchMove s = .go t) ∨ ∃ p t, dispatchMove s = dispatch p t ∧ t.cfg = s.cfg := by
    unfold dispatchMove
    split
    · exact .inl ⟨_, rfl⟩
    · exact .inr ⟨_, _, rfl, rfl⟩
    · exact .inr ⟨_, _, rfl, rfl⟩
  unfold sequencerMove
  split
  · exact .inl ⟨_, rfl⟩
  · split <;> exact .inl ⟨_, rfl⟩
  · split
    · exact .inl ⟨_, rfl⟩
    · exact hd
    · exact hd

/-- The next move of a legal block is a state, or a dispatch of a state with the same parameters. -/
theorem plan_legal {s : State} (hl : s.cfg.legal = true) :
    (∃ t, plan s = .go t) ∨ ∃ p t, plan s = dispatch p t ∧ t.cfg = s.cfg := by
  unfold plan
  rw [if_pos hl]
  split
  · next p t hn =>
    obtain ⟨i, rest, -, -, -, -, rfl⟩ := State.nextEvent_some hn
    exact .inr ⟨_, _, rfl, rfl⟩
  · exact .inl ⟨_, rfl⟩
  · exact s.passMove_cfg ▸ sequencerMove_cases s.passMove

/-- An instruction is refused exactly when the configuration is illegal (R601). -/
theorem exec_illegalConfig_iff (i : Instr) (s : State) :
    exec i s = .refused .illegalConfig ↔ s.cfg.legal = false := by
  rw [exec_eq_hostJob]
  cases hl : s.cfg.legal with
  | false => simp [hostJob_illegal hl]
  | true =>
    cases hc : s.canTake with
    | false => simp [hostJob_waits hl hc]
    | true => simp [hostJob_taken hl hc]

/-- A step is refused for its configuration exactly when the configuration is illegal (R11, R601). -/
theorem step_illegalConfig_iff (s : State) : step s = .refused .illegalConfig ↔ s.cfg.legal = false := by
  cases hl : s.cfg.legal with
  | false => simp [step, plan, hl]
  | true =>
    refine iff_of_false (fun h => ?_) nofun
    unfold step at h
    rcases plan_legal hl with ⟨t, hp⟩ | ⟨p, t, hp, hcfg⟩
    · rw [hp] at h
      cases h
    · rcases dispatch_cases p t with ⟨src, hd⟩ | hd | ⟨i, hd⟩ | hd <;> rw [hp, hd] at h
      · cases h
      · cases h
      · exact absurd ((exec_illegalConfig_iff i t).1 h) (by simp [hcfg, hl])
      · cases h

/-- Settles O8: R11's ranges, and the refusals of a step and of an instruction. -/
theorem illegalConfigRefused : Obligations.IllegalConfigRefused :=
  ⟨fun _ => Config.legal_iff, step_illegalConfig_iff, exec_illegalConfig_iff⟩

/-! ## What the invariant reads of a state -/

/-- The state with a fixed value in every field that neither the registers' ranges nor a job's needs (`JobOk`) read, so
that an operation which writes only those fields leaves the view alone. -/
def State.view (s : State) : State :=
  { s with
    seq := .idle, mmask := 0#8, motionPend := false, tickPend := false, scanPend := false, adcMux := .gnd,
    padMode := .float, motionN := false, tent := false, offered := none, inputs := [], draws := 0 }

@[simp] theorem State.view_goto (s : State) (j : Job) : (s.goto j).view = s.view := rfl

@[simp] theorem State.view_recast (s : State) (l : List Input) (n : Nat) : (s.recast l n).view = s.view := rfl

@[simp] theorem State.view_setPending (src : Source) (s : State) : (s.setPending src).view = s.view := by
  cases src <;> rfl

@[simp] theorem State.view_clearPending (src : Source) (s : State) : (s.clearPending src).view = s.view := by
  cases src <;> rfl

@[simp] theorem State.view_clearAtEntry (s : State) (src : Source) : (s.clearAtEntry src).view = s.view := by
  unfold State.clearAtEntry; split <;> simp

@[simp] theorem State.view_clearAtExit (s : State) (src : Source) : (s.clearAtExit src).view = s.view := by
  unfold State.clearAtExit; split <;> simp

/-! The predicates of the invariant hold of a state exactly when they hold of its view. -/

theorem spiIdle_view {s : State} : SpiIdle s.view ↔ SpiIdle s :=
  ⟨fun h => ⟨h.en, h.busy, h.tc⟩, fun h => ⟨h.en, h.busy, h.tc⟩⟩

theorem adcIdle_view {s : State} : AdcIdle s.view ↔ AdcIdle s :=
  ⟨fun h => ⟨h.busy, h.rdy⟩, fun h => ⟨h.busy, h.rdy⟩⟩

theorem quiet_view {s : State} : Quiet s.view ↔ Quiet s :=
  ⟨fun h => ⟨spiIdle_view.1 h.spi, adcIdle_view.1 h.adc, h.follow⟩,
    fun h => ⟨spiIdle_view.2 h.spi, adcIdle_view.2 h.adc, h.follow⟩⟩

theorem transferOk_view {s : State} {p : TransferPos} : TransferOk s.view p ↔ TransferOk s p := by
  cases p with
  | t1 v => exact and_congr spiIdle_view .rfl
  | t2 v => exact and_congr spiIdle_view .rfl
  | _ => exact .rfl

theorem shotOk_view {s : State} {p : ShotPos} : ShotOk s.view p ↔ ShotOk s p := by
  cases p with
  | s7 | s8 => exact .rfl
  | _ => exact adcIdle_view

theorem filterOk_view {s : State} {p : FilterPos} : FilterOk s.view p ↔ FilterOk s p := by
  cases p with
  | f1 => exact adcIdle_view
  | shot p => exact and_congr shotOk_view .rfl
  | _ => exact and_congr adcIdle_view .rfl

theorem motionOk_view {s : State} {p : MotionPos} : MotionOk s.view p ↔ MotionOk s p := by
  cases p with
  | transfer p => exact and_congr transferOk_view adcIdle_view
  | _ => exact quiet_view

theorem tickOk_view {s : State} {p : TickPos} : TickOk s.view p ↔ TickOk s p := by
  cases p with
  | transfer p => exact and_congr transferOk_view adcIdle_view
  | k4 => exact and_congr quiet_view .rfl
  | _ => exact quiet_view

theorem scanOk_view {s : State} {p : ScanPos} : ScanOk s.view p ↔ ScanOk s p := by
  cases p with
  | filter p => exact and_congr filterOk_view (and_congr spiIdle_view .rfl)
  | transfer p => exact and_congr transferOk_view adcIdle_view
  | b7 | a2 | a3 | a4 | a5 => exact and_congr quiet_view .rfl
  | _ => exact quiet_view

theorem calOk_view {s : State} {p : CalPos} : CalOk s.view p ↔ CalOk s p := by
  cases p with
  | filter p => exact and_congr filterOk_view (and_congr spiIdle_view .rfl)
  | l2 | l2Test | l4 | l5 => exact and_congr quiet_view .rfl
  | _ => exact quiet_view

theorem jobOk_view {s : State} {j : Job} : JobOk s.view j ↔ JobOk s j := by
  cases j with
  | host i p =>
    cases p with
    | body => exact quiet_view
    | transfer p => exact and_congr transferOk_view adcIdle_view
  | motion p => exact motionOk_view
  | tick p => exact tickOk_view
  | scan p => exact scanOk_view
  | cal p => exact calOk_view

theorem seqOk_view {s : State} {q : Seq} : SeqOk s.view q ↔ SeqOk s q := by
  cases q with
  | busy j => exact jobOk_view
  | _ => exact quiet_view

/-- Fields outside the view do not matter to what a sequencer's position needs. -/
theorem seqOk_of_view {s t : State} {q : Seq} (hv : t.view = s.view) (h : SeqOk s q) : SeqOk t q :=
  seqOk_view.1 (hv ▸ seqOk_view.2 h)

theorem jobOk_of_view {s t : State} {j : Job} (hv : t.view = s.view) (h : JobOk s j) : JobOk t j :=
  seqOk_of_view (q := .busy j) hv h

theorem quiet_of_view {s t : State} (hv : t.view = s.view) (h : Quiet s) : Quiet t :=
  seqOk_of_view (q := .idle) hv h

/-! ## The invariant, taken apart and put together -/

/-- The phase and the ranges of the registers: what the invariant says apart from the sequencer and the flags. -/
structure Ranges (ph : Phase) (s : State) : Prop where
  phase : s.phase = ph
  legal : s.cfg.legal = true
  count : s.count.toNat ≤ s.cfg.timeoutSec
  tsample : s.tsample.toNat ≤ maxReading s.cfg
  tbase : s.tbase.toNat ≤ maxReading s.cfg
  adcRes : s.adcRes.toNat ≤ maxReading s.cfg
  tdeb : s.tdeb.toNat < s.cfg.touchDebounce
  latch : s.latch = false

theorem ranges_view {ph : Phase} {s : State} : Ranges ph s.view ↔ Ranges ph s :=
  ⟨fun h => { h with }, fun h => { h with }⟩

theorem ranges_of_view {ph : Phase} {s t : State} (hv : t.view = s.view) (h : Ranges ph s) : Ranges ph t :=
  ranges_view.1 (hv ▸ ranges_view.2 h)

theorem inv_ranges {s : State} (h : Inv s) : Ranges s.phase s := { h with phase := rfl }

theorem Ranges.inv {ph : Phase} {s : State} (hr : Ranges ph s) (hs : SeqOk s s.seq) (hp : PhaseOk s ph)
    (hh : s.hostBusy = true → s.offered = none) : Inv s :=
  { hr with seq := hs, phase := hr.phase ▸ hp, host := hh }

/-- What leaves the view and the sequencer alone keeps the invariant when it keeps what the phase and the host's offer
need. -/
theorem inv_of_view {s t : State} (h : Inv s) (hv : t.view = s.view) (hq : t.seq = s.seq) (hp : PhaseOk t s.phase)
    (ho : t.hostBusy = true → t.offered = none) : Inv t :=
  (ranges_of_view hv (inv_ranges h)).inv (hq ▸ seqOk_of_view hv h.seq) hp ho

theorem inv_recast {s : State} (h : Inv s) (l : List Input) (n : Nat) : Inv (s.recast l n) :=
  inv_of_view h rfl rfl h.phase h.host

/-- In phase RUN a job other than `CAL_JOB` may go to a statement whose needs are met. -/
theorem Ranges.goto_run {s : State} {j : Job} (hr : Ranges .run s) (hj : JobOk s j)
    (hc : ∀ p, j ≠ .cal p := by simp) (ho : ∀ i p, j = .host i p → s.offered = none := by simp) :
    Inv (s.goto j) := by
  refine Ranges.inv (s := s.goto j) (ranges_of_view (s.view_goto j) hr) (jobOk_of_view (s.view_goto j) hj)
    (fun p hp => hc p (Seq.busy.inj hp)) fun hb => ?_
  cases j with
  | host i p => exact ho i p rfl
  | _ => cases hb

/-- In phase CAL `CAL_JOB` may go to a statement whose needs are met. -/
theorem Ranges.goto_cal {s : State} {p : CalPos} (hr : Ranges .cal s) (hf : s.tickPend = false ∧ s.scanPend = false)
    (hj : CalOk s p) : Inv (s.goto (.cal p)) :=
  Ranges.inv (s := s.goto (.cal p)) (ranges_of_view (s.view_goto _) hr)
    (jobOk_of_view (j := .cal p) (s.view_goto _) hj) ⟨⟨p, rfl⟩, hf⟩ nofun

/-- `Quiet` reads nothing but the two peripherals, `LED` and the observation. -/
theorem quiet_of_eq {s t : State} (h : Quiet s) (en : t.spiEn = s.spiEn := by rfl)
    (busy : t.spiBusy = s.spiBusy := by rfl) (tc : t.spiTc = s.spiTc := by rfl)
    (adcBusy : t.adcBusy = s.adcBusy := by rfl) (rdy : t.adcResRdy = s.adcResRdy := by rfl)
    (led : t.led = s.led := by rfl) (q : t.q = s.q := by rfl) (obs : t.obs = s.obs := by rfl) : Quiet t where
  spi := ⟨en.trans h.spi.en, busy.trans h.spi.busy, tc.trans h.spi.tc⟩
  adc := ⟨adcBusy.trans h.adc.busy, rdy.trans h.adc.rdy⟩
  follow := by
    unfold OutputsFollow HasLatched
    rw [led, q, obs]
    exact h.follow

/-- A job completes in phase RUN with both peripherals at rest (R409, R631, R653). -/
theorem Ranges.endJob_run {s : State} (hr : Ranges .run s) (h : Quiet s) : Inv s.endJob :=
  Ranges.inv (ph := .run) { hr with } (quiet_of_eq h) nofun nofun

/-! ## `TRANSFER` keeps its needs (R403 to R405) -/

theorem transferStep_ranges {ph : Phase} {s : State} (h : Ranges ph s) (p : TransferPos) :
    Ranges ph (transferStep p s).2 := by
  cases p with
  | t6 => exact { h with latch := rfl }
  | _ => exact { h with }

theorem transferStep_adcIdle {s : State} (h : AdcIdle s) (p : TransferPos) : AdcIdle (transferStep p s).2 :=
  have f := transferStep_frame p s
  ⟨f.adcBusy.trans h.busy, f.adcResRdy.trans h.rdy⟩

theorem transferOk_next {s : State} {p p' : TransferPos} (h : TransferOk s p)
    (hn : (transferStep p s).1 = some p') : TransferOk (transferStep p s).2 p' := by
  cases p with
  | t1 v =>
    cases hn
    obtain ⟨hs, -⟩ := h
    exact ⟨⟨hs.en, hs.busy, hs.tc⟩, rfl⟩
  | t2 v =>
    cases hn
    obtain ⟨hs, hl⟩ := h
    exact ⟨rfl, hs.busy, hs.tc, hl⟩
  | t3 v =>
    cases hn
    obtain ⟨he, -, ht, hl⟩ := h
    exact ⟨he, .inl ⟨rfl, ht, hl.symm⟩⟩
  | t4 =>
    obtain ⟨he, ⟨hb, ht, hd⟩ | ⟨hb, ht, hs⟩⟩ := h
    · simp only [transferStep, ht] at hn
      cases hn
      exact ⟨he, .inl ⟨hb, ht, hd⟩⟩
    · simp only [transferStep, ht] at hn
      cases hn
      exact ⟨he, hb, ht, hs⟩
  | t5 =>
    cases hn
    obtain ⟨he, hb, -, hs⟩ := h
    exact ⟨he, hb, rfl, hs⟩
  | t6 =>
    cases hn
    exact h
  | t7 => cases hn

/-- A `TRANSFER` that returns leaves both peripherals at rest and the outputs showing `LED` (R409). -/
theorem transferStep_return {s : State} {p : TransferPos} (h : TransferOk s p) (ha : AdcIdle s)
    (hn : (transferStep p s).1 = none) : Quiet (transferStep p s).2 := by
  cases p with
  | t7 =>
    obtain ⟨-, hb, ht, hq⟩ := h
    exact ⟨⟨rfl, hb, ht⟩, transferStep_adcIdle ha .t7, fun _ => hq⟩
  | t4 =>
    simp only [transferStep] at hn
    split at hn <;> cases hn
  | _ => cases hn

/-- One statement of `TRANSFER`: the ranges stay, and it goes on or returns with what is then needed. -/
theorem transferStep_keeps {ph : Phase} {s : State} {p : TransferPos} (hr : Ranges ph s)
    (h : TransferOk s p ∧ AdcIdle s) :
    Ranges ph (transferStep p s).2 ∧
      (∀ p', (transferStep p s).1 = some p' → TransferOk (transferStep p s).2 p' ∧ AdcIdle (transferStep p s).2) ∧
      ((transferStep p s).1 = none → Quiet (transferStep p s).2) :=
  ⟨transferStep_ranges hr p, fun _ hn => ⟨transferOk_next h.1 hn, transferStep_adcIdle h.2 p⟩,
    fun hn => transferStep_return h.1 h.2 hn⟩

/-! ## `FILTERED_SAMPLE` keeps its needs (R486, R490) -/

/-- A filtered sample of `SCAN_SAMPLES` readings is at most the largest reading (R105). -/
theorem mean_le_maxReading {c : Config} {acc : Half} (hl : c.legal = true)
    (h : acc.toNat ≤ c.scanSamples * maxReading c) : (acc >>> c.sampleShift).toNat ≤ maxReading c := by
  obtain ⟨-, ⟨n, -, hs, hn⟩, -⟩ := Config.legal_iff.1 hl
  rw [hs] at h
  rw [BitVec.toNat_ushiftRight, Nat.shiftRight_eq_div_pow, hn]
  exact Nat.div_le_of_le_mul h

/-- Adding a value within the largest reading keeps an accumulator's bound (R14). -/
theorem add_le_succ_mul {x y : Half} {n m : Nat} (hx : x.toNat ≤ n * m) (hy : y.toNat ≤ m) :
    (x + y).toNat ≤ (n + 1) * m :=
  calc (x + y).toNat ≤ x.toNat + y.toNat := by rw [BitVec.toNat_add]; exact Nat.mod_le _ _
    _ ≤ n * m + m := Nat.add_le_add hx hy
    _ = (n + 1) * m := (Nat.succ_mul n m).symm

/-- S7 goes on when the result is ready, and holds until then; it changes nothing (R486, R488). -/
theorem filterStep_s7 (s : State) :
    filterStep (.shot .s7) s = (some (.shot (if s.adcResRdy then .s8 else .s7)), s) := by
  cases h : s.adcResRdy <;> simp [filterStep, shotStep, h]

theorem filterStep_ranges {ph : Phase} {s : State} {p : FilterPos} (h : Ranges ph s) (hf : FilterOk s p) :
    Ranges ph (filterStep p s).2 := by
  cases p with
  | f4 => exact { h with tsample := mean_le_maxReading h.legal hf.2 }
  | shot p =>
    cases p with
    | s7 => rw [filterStep_s7]; exact h
    | _ => exact { h with }
  | _ => exact { h with }

/-- Each reading a single shot adds is at most the largest, and at most `SCAN_SAMPLES` are added. -/
theorem filterOk_next {s : State} {p p' : FilterPos} (h : FilterOk s p) (hr : s.adcRes.toNat ≤ maxReading s.cfg)
    (hn : (filterStep p s).1 = some p') : FilterOk (filterStep p s).2 p' := by
  cases p with
  | f1 =>
    cases hn
    exact ⟨⟨h.busy, h.rdy⟩, rfl⟩
  | f2 =>
    cases hn
    obtain ⟨ha, hacc⟩ := h
    exact ⟨⟨ha.busy, ha.rdy⟩, by simp [filterStep, hacc], Nat.zero_le _⟩
  | f2Test =>
    obtain ⟨ha, hacc, hk⟩ := h
    simp only [filterStep] at hn ⊢
    split at hn
    · next hlt => cases hn; exact ⟨ha, hacc, hlt⟩
    · next hge => cases hn; exact ⟨ha, Nat.le_antisymm hk (Nat.le_of_not_lt hge) ▸ hacc⟩
  | f3 r =>
    cases hn
    obtain ⟨ha, hle, hacc, hk⟩ := h
    refine ⟨⟨ha.busy, ha.rdy⟩, add_le_succ_mul hacc ?_, hk⟩
    exact (BitVec.toNat_setWidth 16 r ▸ Nat.mod_le _ _).trans hle
  | f4 => cases hn
  | shot p =>
    obtain ⟨hs, hacc⟩ := h
    cases p with
    | s6 => cases hn; exact ⟨.inl ⟨rfl, hs.rdy⟩, hacc⟩
    | s7 =>
      rw [filterStep_s7] at hn ⊢
      rcases hs with ⟨hb, hrdy⟩ | ⟨hb, hrdy⟩ <;> rw [hrdy] at hn <;> cases hn
      · exact ⟨.inl ⟨hb, hrdy⟩, hacc⟩
      · exact ⟨⟨hb, hrdy⟩, hacc⟩
    | s8 => cases hn; exact ⟨⟨hs.1, rfl⟩, hr, hacc⟩
    | _ => cases hn; exact ⟨⟨hs.busy, hs.rdy⟩, hacc⟩

theorem filterStep_spi {s : State} (h : SpiIdle s) (ho : OutputsFollow s) (p : FilterPos) :
    SpiIdle (filterStep p s).2 ∧ OutputsFollow (filterStep p s).2 := by
  have f := filterStep_frame p s
  refine ⟨⟨f.spiEn.trans h.en, f.spiBusy.trans h.busy, f.spiTc.trans h.tc⟩, ?_⟩
  unfold OutputsFollow HasLatched
  rw [f.q, f.led, f.obs]
  exact ho

/-- A `FILTERED_SAMPLE` that returns leaves the ADC idle. -/
theorem filterStep_return {s : State} {p : FilterPos} (h : FilterOk s p) (hn : (filterStep p s).1 = none) :
    AdcIdle (filterStep p s).2 := by
  cases p with
  | f4 => exact ⟨h.1.busy, h.1.rdy⟩
  | f2Test =>
    simp only [filterStep] at hn
    split at hn <;> cases hn
  | shot p =>
    cases p with
    | s7 => rw [filterStep_s7] at hn; cases hn
    | _ => cases hn
  | _ => cases hn

/-! ## A statement of each job keeps the invariant -/

theorem timeout_le {c : Config} : (BitVec.ofNat 8 c.timeoutSec).toNat ≤ c.timeoutSec := by
  rw [BitVec.toNat_ofNat]
  exact Nat.mod_le _ _

/-- What a host transaction answers is no latch event (R24). -/
theorem hasLatched_observe {s : State} {o : Obs} (ho : ∀ v, o ≠ .latch v) :
    HasLatched (s.observe o) ↔ HasLatched s := by
  simp [HasLatched, fun v => (ho v).symm]

/-- A host transaction answers and completes in phase RUN with both peripherals at rest (R631). -/
theorem Ranges.answer_run {s : State} {o : Obs} (hr : Ranges .run s) (h : Quiet s)
    (ho : ∀ v, o ≠ .latch v := by nofun) : Inv (s.observe o).endJob :=
  Ranges.endJob_run { hr with }
    ⟨⟨h.spi.en, h.spi.busy, h.spi.tc⟩, ⟨h.adc.busy, h.adc.rdy⟩, fun hl => h.follow ((hasLatched_observe ho).1 hl)⟩

theorem hostStep_inv {i : Instr} {p : HostPos} {s : State} (hr : Ranges .run s) (hj : JobOk s (.host i p))
    (ho : s.offered = none) : Inv (hostStep i p s) := by
  cases p with
  | body =>
    have hq : Quiet s := hj
    simp only [hostStep]
    split
    · exact hr.goto_run ⟨⟨hq.spi, hq.follow⟩, hq.adc⟩ (ho := fun _ _ _ => ho)
    · exact Ranges.answer_run { hr with } (quiet_of_eq hq)
    · exact hr.answer_run hq
  | transfer p =>
    obtain ⟨hr', hin, hout⟩ := transferStep_keeps hr hj
    rcases hostStep_transfer i p s with ⟨p', hn, e⟩ | ⟨hn, e⟩ <;> rw [e]
    · exact hr'.goto_run (hin p' hn)
        (ho := fun _ _ _ => (transferStep_frame p s).offered.trans ho)
    · exact hr'.answer_run (hout hn)

theorem motionStep_inv {p : MotionPos} {s : State} (hr : Ranges .run s) (hj : MotionOk s p) :
    Inv (motionStep p s) := by
  cases p with
  | m0 => exact (ranges_of_view (s.view_clearAtEntry _) hr).goto_run (quiet_of_view (s.view_clearAtEntry _) hj)
  | m1 => exact hr.goto_run ⟨⟨hj.spi, hj.follow⟩, hj.adc⟩
  | transfer p =>
    obtain ⟨hr', hin, hout⟩ := transferStep_keeps hr hj
    rcases motionStep_transfer p s with ⟨p', hn, e⟩ | ⟨hn, e⟩ <;> rw [e]
    · exact hr'.goto_run (hin p' hn)
    · exact hr'.goto_run (hout hn)
  | m2 => exact Ranges.goto_run { hr with count := timeout_le } (quiet_of_eq hj)
  | m3 => exact (ranges_of_view (s.view_clearAtExit _) hr).goto_run (quiet_of_view (s.view_clearAtExit _) hj)
  | m4 => exact hr.endJob_run hj

theorem tickStep_inv {p : TickPos} {s : State} (hr : Ranges .run s) (hj : TickOk s p) : Inv (tickStep p s) := by
  cases p with
  | k0 => exact (ranges_of_view (s.view_clearAtEntry _) hr).goto_run (quiet_of_view (s.view_clearAtEntry _) hj)
  | k1 =>
    simp only [tickStep]
    split
    · exact hr.goto_run hj
    · exact hr.goto_run hj
  | k2 => exact Ranges.goto_run { hr with count := timeout_le } (quiet_of_eq hj)
  | k3 =>
    simp only [tickStep]
    split
    · next h => exact hr.goto_run ⟨hj, h⟩
    · exact hr.goto_run hj
  | k4 =>
    obtain ⟨hq, hpos⟩ := hj
    have hle : (s.count - 1#8).toNat ≤ s.count.toNat := by bv_omega
    exact Ranges.goto_run { hr with count := hle.trans hr.count } (quiet_of_eq hq)
  | k5 =>
    simp only [tickStep]
    split
    · exact hr.goto_run hj
    · exact hr.goto_run hj
  | k6 => exact hr.goto_run ⟨⟨hj.spi, hj.follow⟩, hj.adc⟩
  | transfer p =>
    obtain ⟨hr', hin, hout⟩ := transferStep_keeps hr hj
    rcases tickStep_transfer p s with ⟨p', hn, e⟩ | ⟨hn, e⟩ <;> rw [e]
    · exact hr'.goto_run (hin p' hn)
    · exact hr'.goto_run (hout hn)
  | k7 => exact (ranges_of_view (s.view_clearAtExit _) hr).goto_run (quiet_of_view (s.view_clearAtExit _) hj)
  | k8 => exact hr.endJob_run hj

/-- A3 does not pass the sample (R500, R501). -/
theorem baselineUp_le {c : Config} {sample base : Half} (h : base.toNat < sample.toNat) :
    (baselineUp c sample base).toNat ≤ sample.toNat := by
  have hsub : (sample - base).toNat = sample.toNat - base.toNat := BitVec.toNat_sub_of_le (BitVec.le_def.2 h.le)
  have hdiv : (sample - base).toNat / 2 ^ c.baselineShift ≤ sample.toNat - base.toNat := hsub ▸ Nat.div_le_self _ _
  rw [baselineUp, BitVec.toNat_add, BitVec.toNat_ushiftRight, Nat.shiftRight_eq_div_pow]
  exact (Nat.mod_le _ _).trans (by omega)

/-- A5 does not raise the baseline (R500, R501). -/
theorem baselineDown_le {c : Config} {sample base : Half} (h : sample.toNat < base.toNat) :
    (baselineDown c sample base).toNat ≤ base.toNat := by
  have hsub : (base - sample).toNat = base.toNat - sample.toNat := BitVec.toNat_sub_of_le (BitVec.le_def.2 h.le)
  have hdiv : (base - sample).toNat / 2 ^ c.baselineShift ≤ base.toNat - sample.toNat := hsub ▸ Nat.div_le_self _ _
  have hshift : ((base - sample) >>> c.baselineShift).toNat ≤ base.toNat := by
    rw [BitVec.toNat_ushiftRight, Nat.shiftRight_eq_div_pow]
    omega
  rw [baselineDown, BitVec.toNat_sub_of_le (BitVec.le_def.2 hshift)]
  exact Nat.sub_le _ _

theorem scanStep_inv {p : ScanPos} {s : State} (hr : Ranges .run s) (hj : ScanOk s p) : Inv (scanStep p s) := by
  cases p with
  | c0 =>
    have hq := quiet_of_view (s.view_clearAtEntry .scan) hj
    exact (ranges_of_view (s.view_clearAtEntry _) hr).goto_run ⟨hq.adc, hq.spi, hq.follow⟩
  | filter p =>
    obtain ⟨hf, hs, ho⟩ := hj
    have hr' := filterStep_ranges hr hf
    have hs' := filterStep_spi hs ho p
    rcases scanStep_filter p s with ⟨p', hn, e⟩ | ⟨hn, e⟩ <;> rw [e]
    · exact hr'.goto_run ⟨filterOk_next hf hr.adcRes hn, hs'⟩
    · exact hr'.goto_run ⟨hs'.1, filterStep_return hf hn, hs'.2⟩
  | c2 => exact Ranges.goto_run { hr with } (quiet_of_eq hj)
  | b1 =>
    simp only [scanStep]
    split
    · exact hr.goto_run hj
    · exact hr.goto_run hj
  | b2 =>
    simp only [scanStep]
    split
    · exact hr.goto_run hj
    · next h =>
      simp only [debounceReached, decide_eq_true_eq, not_le] at h
      exact hr.goto_run ⟨hj, h⟩
  | b3 => exact Ranges.goto_run { hr with } (quiet_of_eq hj)
  | b4 => exact Ranges.goto_run { hr with tdeb := Nat.zero_lt_of_lt hr.tdeb } (quiet_of_eq hj)
  | b5 => exact hr.goto_run ⟨⟨hj.spi, hj.follow⟩, hj.adc⟩
  | transfer p =>
    obtain ⟨hr', hin, hout⟩ := transferStep_keeps hr hj
    rcases scanStep_transfer p s with ⟨p', hn, e⟩ | ⟨hn, e⟩ <;> rw [e]
    · exact hr'.goto_run (hin p' hn)
    · exact hr'.goto_run (hout hn)
  | b7 =>
    obtain ⟨hq, hlt⟩ := hj
    have hle : (s.tdeb + 1#4).toNat ≤ s.tdeb.toNat + 1 := by
      rw [BitVec.toNat_add]
      exact Nat.mod_le _ _
    exact Ranges.goto_run { hr with tdeb := hle.trans_lt hlt } (quiet_of_eq hq)
  | b9 => exact Ranges.goto_run { hr with tdeb := Nat.zero_lt_of_lt hr.tdeb } (quiet_of_eq hj)
  | a1 =>
    simp only [scanStep]
    split
    · exact hr.goto_run hj
    · next h => exact hr.goto_run ⟨hj, Bool.eq_false_of_not_eq_true h⟩
  | a2 =>
    obtain ⟨hq, hrel⟩ := hj
    simp only [scanStep]
    split
    · next h => exact hr.goto_run ⟨hq, hrel, h⟩
    · exact hr.goto_run ⟨hq, hrel⟩
  | a3 =>
    obtain ⟨hq, -, hlt⟩ := hj
    exact Ranges.goto_run { hr with tbase := (baselineUp_le hlt).trans hr.tsample } (quiet_of_eq hq)
  | a4 =>
    obtain ⟨hq, hrel⟩ := hj
    simp only [scanStep]
    split
    · next h => exact hr.goto_run ⟨hq, hrel, h⟩
    · exact hr.goto_run hq
  | a5 =>
    obtain ⟨hq, -, hlt⟩ := hj
    exact Ranges.goto_run { hr with tbase := (baselineDown_le hlt).trans hr.tbase } (quiet_of_eq hq)
  | c5 => exact (ranges_of_view (s.view_clearAtExit _) hr).goto_run (quiet_of_view (s.view_clearAtExit _) hj)
  | c6 => exact hr.endJob_run hj

theorem calStep_inv {p : CalPos} {s : State} (hr : Ranges .cal s) (hf : s.tickPend = false ∧ s.scanPend = false)
    (hj : CalOk s p) : Inv (calStep p s) := by
  cases p with
  | l1 => exact Ranges.goto_cal { hr with } hf ⟨quiet_of_eq hj, rfl⟩
  | l2 =>
    obtain ⟨hq, hc⟩ := hj
    exact Ranges.goto_cal { hr with } hf ⟨quiet_of_eq hq, by simp [hc], Nat.zero_le _⟩
  | l2Test =>
    obtain ⟨hq, hc, hle⟩ := hj
    simp only [calStep]
    split
    · next h => exact hr.goto_cal hf ⟨hq.adc, hq.spi, hq.follow, hc, h⟩
    · next h => exact hr.goto_cal hf ⟨hq, Nat.le_antisymm hle (Nat.le_of_not_lt h) ▸ hc⟩
  | filter p =>
    obtain ⟨hfl, hs, ho, hc⟩ := hj
    have hr' := filterStep_ranges hr hfl
    have hs' := filterStep_spi hs ho p
    have f := filterStep_frame p s
    have hf' : (filterStep p s).2.tickPend = false ∧ (filterStep p s).2.scanPend = false := by
      rwa [f.tickPend, f.scanPend]
    have hc' : (filterStep p s).2.cacc.toNat ≤ (filterStep p s).2.j * maxReading (filterStep p s).2.cfg ∧
        (filterStep p s).2.j < (filterStep p s).2.cfg.calSamples := by
      rwa [f.cacc, f.j, f.cfg]
    rcases calStep_filter p s with ⟨p', hn, e⟩ | ⟨hn, e⟩ <;> rw [e]
    · exact hr'.goto_cal hf' ⟨filterOk_next hfl hr.adcRes hn, hs'.1, hs'.2, hc'⟩
    · exact hr'.goto_cal hf' ⟨⟨hs'.1, filterStep_return hfl hn, hs'.2⟩, hc'⟩
  | l4 =>
    obtain ⟨hq, hc, hlt⟩ := hj
    exact Ranges.goto_cal { hr with } hf ⟨quiet_of_eq hq, add_le_succ_mul hc hr.tsample, hlt⟩
  | l5 =>
    obtain ⟨hq, hc⟩ := hj
    have hb : (BitVec.ofNat 16 (s.cacc.toNat / s.cfg.calSamples)).toNat ≤ maxReading s.cfg := by
      rw [BitVec.toNat_ofNat]
      exact (Nat.mod_le _ _).trans (Nat.div_le_of_le_mul hc)
    exact Ranges.goto_cal { hr with tbase := hb } hf (quiet_of_eq hq)
  | l6 => exact Ranges.goto_cal { hr with tdeb := Nat.zero_lt_of_lt hr.tdeb } hf (quiet_of_eq hj)
  | l7 => exact Ranges.endJob_run { hr with phase := rfl } (quiet_of_eq hj)

/-! ## The two awaits -/

/-- A job of any kind at T4 of its `TRANSFER` (R403, R407). -/
def AtT4 (j : Job) : Prop :=
  (∃ i, j = .host i (.transfer .t4)) ∨ j = .motion (.transfer .t4) ∨ j = .tick (.transfer .t4) ∨
    j = .scan (.transfer .t4)

/-- A scan or calibration job at S7 of its single shot (R486, R488). -/
def AtS7 (j : Job) : Prop := j = .scan (.filter (.shot .s7)) ∨ j = .cal (.filter (.shot .s7))

theorem jobOk_t4 {s : State} {j : Job} (h : AtT4 j) : JobOk s j ↔ TransferOk s .t4 ∧ AdcIdle s := by
  obtain ⟨i, rfl⟩ | rfl | rfl | rfl := h <;> exact .rfl

theorem transferOk_spiBusy {s : State} {p : TransferPos} (h : TransferOk s p) (hb : s.spiBusy = true) : p = .t4 := by
  cases p with
  | t4 => rfl
  | t1 v => exact absurd hb (by simp [h.1.busy])
  | t2 v => exact absurd hb (by simp [h.1.busy])
  | _ => exact absurd hb (by simp [h.2.1])

/-- Outside `TRANSFER` the serial link is at rest. -/
theorem jobOk_spi {s : State} {j : Job} (h : JobOk s j) :
    SpiIdle s ∨ ∃ p, TransferOk s p ∧ (p = .t4 → AtT4 j) := by
  cases j with
  | host i p =>
    cases p with
    | body => exact .inl h.spi
    | transfer p => exact .inr ⟨p, h.1, fun e => .inl ⟨i, by rw [e]⟩⟩
  | motion p =>
    cases p with
    | transfer p => exact .inr ⟨p, h.1, fun e => .inr (.inl (by rw [e]))⟩
    | _ => exact .inl h.spi
  | tick p =>
    cases p with
    | transfer p => exact .inr ⟨p, h.1, fun e => .inr (.inr (.inl (by rw [e])))⟩
    | k4 => exact .inl h.1.spi
    | _ => exact .inl h.spi
  | scan p =>
    cases p with
    | transfer p => exact .inr ⟨p, h.1, fun e => .inr (.inr (.inr (by rw [e])))⟩
    | filter p => exact .inl h.2.1
    | b7 | a2 | a3 | a4 | a5 => exact .inl h.1.spi
    | _ => exact .inl h.spi
  | cal p =>
    cases p with
    | filter p => exact .inl h.2.1
    | l2 | l2Test | l4 | l5 => exact .inl h.1.spi
    | _ => exact .inl h.spi

/-- The serial peripheral is busy only while a job awaits it (R403, R406). -/
theorem jobOk_spiBusy {s : State} {j : Job} (h : JobOk s j) (hb : s.spiBusy = true) : AtT4 j := by
  rcases jobOk_spi h with hs | ⟨p, hp, hj⟩
  · exact absurd hb (by simp [hs.busy])
  · exact hj (transferOk_spiBusy hp hb)

theorem filterOk_adcBusy {s : State} {p : FilterPos} (h : FilterOk s p) (hb : s.adcBusy = true) : p = .shot .s7 := by
  cases p with
  | f1 => exact absurd hb (by simp [h.busy])
  | shot p =>
    cases p with
    | s7 => rfl
    | s8 => exact absurd hb (by simp [h.1.1])
    | _ => exact absurd hb (by simp [h.1.busy])
  | _ => exact absurd hb (by simp [h.1.busy])

/-- Outside `FILTERED_SAMPLE` the ADC is idle. -/
theorem jobOk_adc {s : State} {j : Job} (h : JobOk s j) :
    AdcIdle s ∨ ∃ p, FilterOk s p ∧ (p = .shot .s7 → AtS7 j) := by
  cases j with
  | host i p =>
    cases p with
    | body => exact .inl h.adc
    | transfer p => exact .inl h.2
  | motion p =>
    cases p with
    | transfer p => exact .inl h.2
    | _ => exact .inl h.adc
  | tick p =>
    cases p with
    | transfer p => exact .inl h.2
    | k4 => exact .inl h.1.adc
    | _ => exact .inl h.adc
  | scan p =>
    cases p with
    | transfer p => exact .inl h.2
    | filter p => exact .inr ⟨p, h.1, fun e => .inl (by rw [e])⟩
    | b7 | a2 | a3 | a4 | a5 => exact .inl h.1.adc
    | _ => exact .inl h.adc
  | cal p =>
    cases p with
    | filter p => exact .inr ⟨p, h.1, fun e => .inr (by rw [e])⟩
    | l2 | l2Test | l4 | l5 => exact .inl h.1.adc
    | _ => exact .inl h.adc

/-- The ADC is busy only while a job awaits it (R486, R487). -/
theorem jobOk_adcBusy {s : State} {j : Job} (h : JobOk s j) (hb : s.adcBusy = true) : AtS7 j := by
  rcases jobOk_adc h with ha | ⟨p, hp, hj⟩
  · exact absurd hb (by simp [ha.busy])
  · exact hj (filterOk_adcBusy hp hb)

/-! ## A coming event keeps the invariant -/

/-- The stage holds the byte sent, whatever it held before (R404). -/
theorem shiftByte_eq (stage v : Byte) : shiftByte stage v = v := by
  apply BitVec.eq_of_getLsbD_eq
  intro n hn
  interval_cases n <;> simp [shiftByte, serialBits, shiftIn]

theorem seqOk_spiDone {s : State} {q : Seq} (h : SeqOk s q) (hb : s.spiBusy = true) : SeqOk (spiDoneEvent s) q := by
  cases q with
  | busy j =>
    have ht := jobOk_spiBusy h hb
    obtain ⟨⟨he, ⟨-, -, hd⟩ | ⟨hb', -⟩⟩, ha⟩ := (jobOk_t4 ht).1 h
    · exact (jobOk_t4 ht).2 ⟨⟨he, .inr ⟨rfl, rfl, (shiftByte_eq _ _).trans hd⟩⟩, ha.busy, ha.rdy⟩
    · exact absurd hb (by simp [hb'])
  | _ => exact absurd hb (by simp [h.spi.busy])

theorem shotOk_s7_adcDone {s : State} (r : Reading) : ShotOk (adcDoneEvent r s) .s7 := .inr ⟨rfl, rfl⟩

theorem seqOk_adcDone {s : State} {q : Seq} (r : Reading) (h : SeqOk s q) (hb : s.adcBusy = true) :
    SeqOk (adcDoneEvent r s) q := by
  cases q with
  | busy j =>
    obtain rfl | rfl := jobOk_adcBusy h hb
    · obtain ⟨⟨-, hacc⟩, hs, ho⟩ := h
      exact ⟨⟨shotOk_s7_adcDone r, hacc⟩, ⟨hs.en, hs.busy, hs.tc⟩, ho⟩
    · obtain ⟨⟨-, hacc⟩, hs, ho⟩ := h
      exact ⟨⟨shotOk_s7_adcDone r, hacc⟩, ⟨hs.en, hs.busy, hs.tc⟩, ho⟩
  | _ => exact absurd hb (by simp [h.adc.busy])

/-- A conversion's result is at most the largest reading (R133, R487). -/
theorem conversion_le (c : Config) (n : Nat) : (BitVec.ofNat 10 (n % 2 ^ c.adcBits)).toNat ≤ maxReading c := by
  rw [BitVec.toNat_ofNat]
  exact (Nat.mod_le _ _).trans (Nat.le_sub_one_of_lt (Nat.mod_lt _ (by positivity)))

/-- A latched edge is none in phase RESET, and CAL asks nothing of it (R440, R712). -/
theorem phaseOk_pin {s : State} (l : Bool) (h : PhaseOk s s.phase) : PhaseOk (pinEvent l s) s.phase := by
  rw [pinEvent_eq]
  cases hp : s.phase with
  | reset =>
    rw [hp] at h
    obtain ⟨hs, hl, hm, hf⟩ := h
    exact ⟨hs, hl, by simp [hm], hf⟩
  | cal | run => rw [hp] at h; exact h

/-- A source's event in phase RUN, where any flag may be set (R121, R720). -/
theorem setPending_inv {s : State} (h : Inv s) (hp : s.phase = .run) (src : Source) : Inv (s.setPending src) := by
  have hph := h.phase
  rw [hp] at hph
  refine inv_of_view h (State.view_setPending src s) (State.setPending_seq src s) ?_ ?_
  · rw [hp]
    exact fun p hj => hph p ((State.setPending_seq src s).symm.trans hj)
  · rw [State.hostBusy, State.setPending_seq, State.setPending_offered]
    exact h.host

theorem event_fire_inv {s : State} {e : Event} (h : Inv s) (he : e.enabled s = true) : Inv (e.fire s) := by
  cases e with
  | pin l =>
    refine inv_of_view h ?_ ?_ (phaseOk_pin l h.phase) ?_ <;> simp only [Event.fire, pinEvent_eq]
    · rfl
    · exact h.host
  | tick => exact setPending_inv h (of_decide_eq_true he) .tick
  | scan => exact setPending_inv h (of_decide_eq_true he) .scan
  | spiDone => exact { h with seq := seqOk_spiDone h.seq he, phase := h.phase }
  | adcDone r =>
    exact { h with seq := seqOk_adcDone r h.seq he, phase := h.phase, adcRes := conversion_le s.cfg r.toNat }
  | offer t =>
    simp only [Event.enabled, Bool.and_eq_true, Bool.not_eq_true'] at he
    exact inv_of_view h rfl rfl h.phase fun hb => absurd (he.2.symm.trans hb) Bool.false_ne_true
  | run p => exact h

/-- Whether an event can happen does not depend on what is coming. -/
theorem enabled_recast (e : Event) (s : State) (l : List Input) (n : Nat) :
    e.enabled (s.recast l n) = e.enabled s := by
  cases e with
  | run p => simp only [Event.enabled, State.candidates_recast]; rfl
  | _ => rfl

/-! ## Every move and every step keeps the invariant -/

/-- One statement of the job in progress, in phase CAL for `CAL_JOB` and in RUN for every other. -/
theorem jobStep_inv {s : State} {j : Job} (h : Inv s) (hj : s.seq = .busy j) : Inv (jobStep j s) := by
  have hr := inv_ranges h
  have hok : JobOk s j := by
    have := h.seq
    rwa [hj] at this
  have hph := h.phase
  cases hp : s.phase with
  | reset =>
    rw [hp] at hph
    exact absurd hph.1 (by simp [hj])
  | cal =>
    rw [hp] at hr hph
    obtain ⟨⟨p, hc⟩, hf⟩ := hph
    obtain rfl := Seq.busy.inj (hj.symm.trans hc)
    exact calStep_inv hr hf hok
  | run =>
    rw [hp] at hr hph
    cases j with
    | host i p => exact hostStep_inv hr hok (h.host (by simp [State.hostBusy, hj]))
    | motion p => exact motionStep_inv hr hok
    | tick p => exact tickStep_inv hr hok
    | scan p => exact scanStep_inv hr hok
    | cal p => exact absurd hj (hph p)

theorem passMove_inv {s : State} (h : Inv s) : Inv s.passMove := by
  obtain ⟨l, hl⟩ := s.passMove_recast
  exact hl ▸ inv_recast h l s.draws

theorem jobMove_inv {s : State} {j : Job} (h : Inv s) (hj : s.seq = .busy j) : Inv (jobMove j s) := by
  rcases jobMove_cases hj with ⟨e, rest, he, -, hm⟩ | ⟨-, hm⟩ <;> rw [hm]
  · exact event_fire_inv (inv_recast h rest s.draws) ((enabled_recast e s rest s.draws).trans he)
  · exact jobStep_inv (passMove_inv h) (s.passMove_seq.trans hj)

/-- The reset step starts `CAL_JOB` with the registers at their values of R700 (R711). -/
theorem resetStep_inv {s : State} (h : Inv s) (hp : s.phase = .reset) : Inv (resetStep s) := by
  have hph := h.phase
  have hs := h.seq
  rw [hp] at hph
  obtain ⟨hi, hl, -⟩ := hph
  rw [hi] at hs
  have hq : Quiet (resetStep s) := ⟨⟨rfl, rfl, rfl⟩, ⟨rfl, rfl⟩, fun h' => absurd h' hl⟩
  exact Ranges.inv (ph := .cal)
    { h with phase := rfl, count := Nat.zero_le _, tdeb := Nat.zero_lt_of_lt h.tdeb, latch := rfl }
    hq ⟨⟨.l1, rfl⟩, rfl, rfl⟩ nofun

/-- With no job in progress both peripherals are at rest and the outputs show `LED` (R409, R653). -/
theorem inv_quiet {s : State} (h : Inv s) (hb : s.isBusy = false) : Quiet s := by
  have hs := h.seq
  rcases State.isBusy_false hb with hq | hq <;> rw [hq] at hs <;> exact hs

theorem startService_inv {s : State} (hr : Ranges .run s) (hq : Quiet s) (src : Source) :
    Inv (s.startService src) := by
  cases src with
  | motion => exact hr.goto_run (j := .motion .m0) hq
  | tick => exact hr.goto_run (j := .tick .k0) hq
  | scan => exact hr.goto_run (j := .scan .c0) hq

theorem startHost_inv {s : State} (hr : Ranges .run s) (hq : Quiet s) (i : Instr) : Inv (s.startHost i) :=
  Ranges.goto_run (s := { s with offered := none }) { hr with } (quiet_of_eq hq) (ho := fun _ _ _ => rfl)

/-- Settles O55: each kind of step keeps it, and a transaction keeps it move by move. -/
theorem everyStepKeepsInvariant : Obligations.EveryStepKeepsInvariant := by
  intro s t h hs
  obtain ⟨-, hcase⟩ := step_cases hs
  have hready : s.canTake = true → Ranges .run s ∧ Quiet s := fun hc =>
    have ⟨hp, hb⟩ := State.canTake_iff.1 hc
    ⟨hp ▸ inv_ranges h, inv_quiet h hb⟩
  cases hcase with
  | event e rest he hrun hn ht =>
    rw [ht]
    exact event_fire_inv (inv_recast h rest s.draws) ((enabled_recast e s rest s.draws).trans he)
  | reset hp ht => exact ht ▸ resetStep_inv (passMove_inv h) (s.passMove_phase.trans hp)
  | statement j hp hj hn ht => exact ht ▸ jobStep_inv (passMove_inv h) (s.passMove_seq.trans hj)
  | service src l n hc ht =>
    obtain ⟨hr, hq⟩ := hready hc
    exact ht ▸ startService_inv (ranges_of_view (s.view_recast l n) hr) (quiet_of_view (s.view_recast l n) hq) src
  | sleep hc ht =>
    obtain ⟨hr, hq⟩ := hready hc
    obtain ⟨l, hl⟩ := s.passMove_recast
    rw [ht, hl]
    exact Ranges.inv (ph := .run) { hr with } (quiet_of_eq hq) nofun nofun
  | nothing hp hb l n ht => exact ht ▸ inv_recast h l n
  | transaction i l n hc hpl ht =>
    obtain ⟨hr, hq⟩ := hready hc
    rw [ht]
    exact runJob_induct (fun _ _ => jobMove_inv) _ _
      (startHost_inv (ranges_of_view (s.view_recast l n) hr) (quiet_of_view (s.view_recast l n) hq) i)

/-! ## A job held at an await stays put -/

theorem State.goto_self {s : State} {j : Job} (h : s.seq = .busy j) : s.goto j = s := by
  rw [State.goto, ← h]

/-- T4 without a completion answers the same state (R407). -/
theorem jobStep_t4_hold {s : State} {j : Job} (h : AtT4 j) (hj : s.seq = .busy j) (ht : s.spiTc = false) :
    jobStep j s = s := by
  have hp : transferStep .t4 s = (some .t4, s) := by simp [transferStep, ht]
  have hs := State.goto_self hj
  obtain ⟨i, rfl⟩ | rfl | rfl | rfl := h
  · simpa only [jobStep, hostStep, hp] using hs
  · simpa only [jobStep, motionStep, hp] using hs
  · simpa only [jobStep, tickStep, hp] using hs
  · simpa only [jobStep, scanStep, hp] using hs

/-- S7 without a result answers the same state (R488). -/
theorem jobStep_s7_hold {s : State} {j : Job} (h : AtS7 j) (hj : s.seq = .busy j) (hr : s.adcResRdy = false) :
    jobStep j s = s := by
  have hp : filterStep (.shot .s7) s = (some (.shot .s7), s) := by simp [filterStep_s7, hr]
  have hs := State.goto_self hj
  obtain rfl | rfl := h
  · simpa only [jobStep, scanStep, hp] using hs
  · simpa only [jobStep, calStep, hp] using hs

/-- Settles O18: with nothing coming the step is the held statement. -/
theorem hangStaysPut : Obligations.HangStaysPut := by
  intro s j hl hp hj hi
  have hstep : step s = .next (jobStep j s) := by
    rw [step_busy hl hp hj, jobMove, State.nextEvent_nil hi, State.passMove_nil hi]
  exact ⟨fun ht htc => by rw [hstep, jobStep_t4_hold ht hj htc],
    fun hs hr => by rw [hstep, jobStep_s7_hold hs hj hr]⟩

/-! ## The parameters and the observation -/

/-- The parameters are the same and the observation is extended at its end (R11, R24). -/
structure Grows (s t : State) : Prop where
  cfg : t.cfg = s.cfg
  obs : ∃ more, t.obs = s.obs ++ more

theorem Grows.of_eq {s t : State} (hc : t.cfg = s.cfg) (ho : t.obs = s.obs) : Grows s t :=
  ⟨hc, [], by simp [ho]⟩

theorem Grows.trans {s t u : State} (h : Grows s t) (h' : Grows t u) : Grows s u := by
  obtain ⟨hc, m, hm⟩ := h
  obtain ⟨hc', m', hm'⟩ := h'
  exact ⟨hc'.trans hc, m ++ m', by rw [hm', hm, List.append_assoc]⟩

theorem Grows.observe (s : State) (o : Obs) : Grows s (s.observe o) := ⟨rfl, [o], rfl⟩

/-- Where the sequencer goes next is not observed. -/
theorem Grows.goto {s t : State} (h : Grows s t) (j : Job) : Grows s (t.goto j) := ⟨h.cfg, h.obs⟩

theorem Grows.endJob {s t : State} (h : Grows s t) : Grows s t.endJob := ⟨h.cfg, h.obs⟩

theorem transferStep_grows (p : TransferPos) (s : State) : Grows s (transferStep p s).2 := by
  refine ⟨(transferStep_frame p s).cfg, ?_⟩
  rcases transferStep_obs p s with h | ⟨-, h⟩
  · exact ⟨[], by simp [h]⟩
  · exact ⟨_, h⟩

theorem filterStep_grows (p : FilterPos) (s : State) : Grows s (filterStep p s).2 :=
  have f := filterStep_frame p s
  .of_eq f.cfg f.obs

theorem hostStep_grows (i : Instr) (p : HostPos) (s : State) : Grows s (hostStep i p s) := by
  cases p with
  | body =>
    simp only [hostStep]
    split
    · exact .of_eq rfl rfl
    · exact ⟨rfl, _, rfl⟩
    · exact (Grows.observe s _).endJob
  | transfer p =>
    have h := transferStep_grows p s
    rcases hostStep_transfer i p s with ⟨p', -, e⟩ | ⟨-, e⟩ <;> rw [e]
    · exact h.goto _
    · exact (h.trans (.observe _ _)).endJob

theorem motionStep_grows (p : MotionPos) (s : State) : Grows s (motionStep p s) := by
  cases p with
  | transfer p =>
    rcases motionStep_transfer p s with ⟨p', -, e⟩ | ⟨-, e⟩
    · exact e ▸ (transferStep_grows p s).goto _
    · exact e ▸ (transferStep_grows p s).goto _
  | _ => apply Grows.of_eq <;> simp [motionStep]

theorem tickStep_grows (p : TickPos) (s : State) : Grows s (tickStep p s) := by
  cases p with
  | transfer p =>
    rcases tickStep_transfer p s with ⟨p', -, e⟩ | ⟨-, e⟩
    · exact e ▸ (transferStep_grows p s).goto _
    · exact e ▸ (transferStep_grows p s).goto _
  | k1 | k3 | k5 => simp only [tickStep]; split <;> exact .of_eq rfl rfl
  | _ => apply Grows.of_eq <;> simp [tickStep]

theorem scanStep_grows (p : ScanPos) (s : State) : Grows s (scanStep p s) := by
  cases p with
  | transfer p =>
    rcases scanStep_transfer p s with ⟨p', -, e⟩ | ⟨-, e⟩
    · exact e ▸ (transferStep_grows p s).goto _
    · exact e ▸ (transferStep_grows p s).goto _
  | filter p =>
    rcases scanStep_filter p s with ⟨p', -, e⟩ | ⟨-, e⟩
    · exact e ▸ (filterStep_grows p s).goto _
    · exact e ▸ (filterStep_grows p s).goto _
  | b1 | b2 | a1 | a2 | a4 => simp only [scanStep]; split <;> exact .of_eq rfl rfl
  | _ => apply Grows.of_eq <;> simp [scanStep]

theorem calStep_grows (p : CalPos) (s : State) : Grows s (calStep p s) := by
  cases p with
  | filter p =>
    rcases calStep_filter p s with ⟨p', -, e⟩ | ⟨-, e⟩
    · exact e ▸ (filterStep_grows p s).goto _
    · exact e ▸ (filterStep_grows p s).goto _
  | l2Test => simp only [calStep]; split <;> exact .of_eq rfl rfl
  | _ => exact .of_eq rfl rfl

/-- A statement of a job, with the coming events' delay counted down. -/
theorem jobStep_grows (j : Job) (s : State) : Grows s (jobStep j s.passMove) := by
  refine Grows.trans (.of_eq s.passMove_cfg s.passMove_obs) ?_
  cases j with
  | host i p => exact hostStep_grows i p _
  | motion p => exact motionStep_grows p _
  | tick p => exact tickStep_grows p _
  | scan p => exact scanStep_grows p _
  | cal p => exact calStep_grows p _

theorem event_fire_grows (e : Event) (s : State) (l : List Input) : Grows s (e.fire { s with inputs := l }) :=
  have f := e.fire_frame { s with inputs := l }
  .of_eq f.cfg f.obs

theorem jobMove_grows {s : State} {j : Job} (hj : s.seq = .busy j) : Grows s (jobMove j s) := by
  rcases jobMove_cases hj with ⟨e, rest, -, -, hm⟩ | ⟨-, hm⟩ <;> rw [hm]
  · exact event_fire_grows e s rest
  · exact jobStep_grows j s

theorem runJob_grows (n : Nat) (s : State) : Grows s (runJob n s) :=
  runJob_induct (P := Grows s) (fun _ _ h hj => h.trans (jobMove_grows hj)) n s (.of_eq rfl rfl)

/-- Settles O52: every kind of step keeps the parameters and at most appends to the observation. -/
theorem observationGrows : Obligations.ObservationGrows := by
  intro s t hs
  suffices h : Grows s t from ⟨h.cfg, h.obs⟩
  obtain ⟨-, hcase⟩ := step_cases hs
  cases hcase with
  | event e rest he hrun hn ht => exact ht ▸ event_fire_grows e s rest
  | reset hp ht => exact ht ▸ .of_eq s.passMove_cfg s.passMove_obs
  | statement j hp hj hn ht => exact ht ▸ jobStep_grows j s
  | service src l n hc ht => exact ht ▸ .of_eq rfl rfl
  | sleep hc ht => exact ht ▸ .of_eq s.passMove_cfg s.passMove_obs
  | nothing hp hb l n ht => exact ht ▸ .of_eq rfl rfl
  | transaction i l n hc hpl ht =>
    have hstart : Grows s ((s.recast l n).startHost i) := .of_eq rfl rfl
    exact ht ▸ hstart.trans (runJob_grows _ _)

end Sys2Proof.Machine
end

section
/-! Proofs of the statements on who writes `LED`, `MMASK` and `COUNT` (10_state.md R102 to R104): what one statement of a
job, one host transaction and one step can write in these three registers. -/

namespace Sys2Proof.Machine

open Sys2Proof.Safety

/-! ## A statement of a job -/

/-- What a statement of the job `j` can write in the three registers, from `s` to `t` (R102, R103, R104). -/
structure StatementWrites (j : Job) (s t : State) : Prop where
  led : t.led = s.led ∨ transferStart t.led j
  mmask : t.mmask = s.mmask ∨ ∃ i, j = .host i .body ∧ maskValue s.mmask i = some t.mmask
  count : t.count = s.count ∨
    ((j = .motion .m2 ∨ j = .tick .k2) ∧ t.count = BitVec.ofNat 8 s.cfg.timeoutSec) ∨
    (j = .tick .k4 ∧ t.count = s.count - 1#8)

theorem StatementWrites.of_eq {j : Job} {s t : State} (hl : t.led = s.led) (hm : t.mmask = s.mmask)
    (hc : t.count = s.count) : StatementWrites j s t := ⟨.inl hl, .inl hm, .inl hc⟩

/-- A statement of `FILTERED_SAMPLE` writes none of the three registers (R486, R490). -/
theorem filterStep_writes (j : Job) (p : FilterPos) (s : State) : StatementWrites j s (filterStep p s).2 :=
  have f := filterStep_frame p s
  .of_eq f.led f.mmask f.count

/-- A job at a statement of `TRANSFER` writes what the procedure does: `LED` at T1 (R402, R403). -/
theorem transferStep_writes {j : Job} {p : TransferPos} (s : State) (hj : ∀ v, p = .t1 v → transferStart v j) :
    StatementWrites j s (transferStep p s).2 := by
  have f := transferStep_frame p s
  refine ⟨?_, .inl f.mmask, .inl f.count⟩
  rcases transferStep_led p s with hl | ⟨v, hp, hl⟩
  · exact .inl hl
  · exact .inr (hl.symm ▸ hj v hp)

/-- Where the sequencer goes next is none of the three registers. -/
theorem StatementWrites.goto {j : Job} {s t : State} (h : StatementWrites j s t) (j' : Job) :
    StatementWrites j s (t.goto j') := ⟨h.led, h.mmask, h.count⟩

/-- Completing a host transaction writes none of the three registers (R631). -/
theorem StatementWrites.complete {j : Job} {s t : State} (h : StatementWrites j s t) (o : Obs) :
    StatementWrites j s (t.observe o).endJob := ⟨h.led, h.mmask, h.count⟩

/-- The transactions whose pseudocode is `TRANSFER(v)` are the LED operations, with R410 to R413's value. -/
theorem hostBody_transfer {i : Instr} {s : State} {v : Byte} (h : hostBody i s = .transfer v) :
    ledValue s.led i = some v := by
  cases i <;> cases h <;> rfl

/-- The transactions whose pseudocode is `MMASK <- m` are the mask writes, with R420's and R421's value. -/
theorem hostBody_mask {i : Instr} {s : State} {m : Byte} (h : hostBody i s = .mask m) :
    maskValue s.mmask i = some m := by
  cases i <;> cases h <;> rfl

theorem hostStep_writes (i : Instr) (p : HostPos) (s : State) : StatementWrites (.host i p) s (hostStep i p s) := by
  cases p with
  | body =>
    simp only [hostStep]
    split
    · exact .of_eq rfl rfl rfl
    · next m hb => exact ⟨.inl rfl, .inr ⟨i, rfl, hostBody_mask hb⟩, .inl rfl⟩
    · exact .of_eq rfl rfl rfl
  | transfer p =>
    have w := transferStep_writes (j := .host i (.transfer p)) s fun _ => congrArg HostPos.transfer
    rcases hostStep_transfer i p s with ⟨p', -, e⟩ | ⟨-, e⟩ <;> rw [e]
    · exact w.goto _
    · exact w.complete _

theorem motionStep_writes (p : MotionPos) (s : State) : StatementWrites (.motion p) s (motionStep p s) := by
  cases p with
  | transfer p =>
    have w := transferStep_writes (j := .motion (.transfer p)) s fun _ => congrArg MotionPos.transfer
    rcases motionStep_transfer p s with ⟨p', -, e⟩ | ⟨-, e⟩ <;> exact e ▸ w.goto _
  | m2 => exact ⟨.inl rfl, .inl rfl, .inr (.inl ⟨.inl rfl, rfl⟩)⟩
  | _ => apply StatementWrites.of_eq <;> simp [motionStep]

theorem tickStep_writes (p : TickPos) (s : State) : StatementWrites (.tick p) s (tickStep p s) := by
  cases p with
  | transfer p =>
    have w := transferStep_writes (j := .tick (.transfer p)) s fun _ => congrArg TickPos.transfer
    rcases tickStep_transfer p s with ⟨p', -, e⟩ | ⟨-, e⟩ <;> exact e ▸ w.goto _
  | k2 => exact ⟨.inl rfl, .inl rfl, .inr (.inl ⟨.inr rfl, rfl⟩)⟩
  | k4 => exact ⟨.inl rfl, .inl rfl, .inr (.inr ⟨rfl, rfl⟩)⟩
  | k1 | k3 | k5 => simp only [tickStep]; split <;> exact .of_eq rfl rfl rfl
  | _ => apply StatementWrites.of_eq <;> simp [tickStep]

theorem scanStep_writes (p : ScanPos) (s : State) : StatementWrites (.scan p) s (scanStep p s) := by
  cases p with
  | transfer p =>
    have w := transferStep_writes (j := .scan (.transfer p)) s fun _ => congrArg ScanPos.transfer
    rcases scanStep_transfer p s with ⟨p', -, e⟩ | ⟨-, e⟩ <;> exact e ▸ w.goto _
  | filter p =>
    have w := filterStep_writes (.scan (.filter p)) p s
    rcases scanStep_filter p s with ⟨p', -, e⟩ | ⟨-, e⟩ <;> exact e ▸ w.goto _
  | b1 | b2 | a1 | a2 | a4 => simp only [scanStep]; split <;> exact .of_eq rfl rfl rfl
  | _ => apply StatementWrites.of_eq <;> simp [scanStep]

theorem calStep_writes (p : CalPos) (s : State) : StatementWrites (.cal p) s (calStep p s) := by
  cases p with
  | filter p =>
    have w := filterStep_writes (.cal (.filter p)) p s
    rcases calStep_filter p s with ⟨p', -, e⟩ | ⟨-, e⟩ <;> exact e ▸ w.goto _
  | l2Test => simp only [calStep]; split <;> exact .of_eq rfl rfl rfl
  | _ => exact .of_eq rfl rfl rfl

theorem jobStep_writes (j : Job) (s : State) : StatementWrites j s (jobStep j s) := by
  cases j with
  | host i p => exact hostStep_writes i p s
  | motion p => exact motionStep_writes p s
  | tick p => exact tickStep_writes p s
  | scan p => exact scanStep_writes p s
  | cal p => exact calStep_writes p s

/-! ## A host transaction as one step -/

/-- What holds at a transaction's start, and is kept by every coming event and by every statement of its job, holds at
the end of its run or at its hold (R209, R407). -/
theorem runJob_host_induct {i : Instr} {P : State → Prop} (hrecast : ∀ u l, P u → P (u.recast l u.draws))
    (hfire : ∀ u (e : Event), P u → P (e.fire u))
    (hstmt : ∀ u p, u.seq = .busy (.host i p) → P u → P (hostStep i p u))
    {s : State} {p : HostPos} (hs : s.seq = .busy (.host i p)) (h : P s) (n : Nat) : P (runJob n s) := by
  suffices hrun : (∀ j, (runJob n s).seq = .busy j → ∃ q, j = .host i q) ∧ P (runJob n s) from hrun.2
  refine runJob_induct (P := fun u => (∀ j, u.seq = .busy j → ∃ q, j = .host i q) ∧ P u) ?_ n s
    ⟨fun j hj => ⟨p, Seq.busy.inj (hj.symm.trans hs)⟩, h⟩
  rintro u j ⟨hu, hP⟩ hj
  obtain ⟨q, rfl⟩ := hu j hj
  rcases jobMove_cases hj with ⟨e, rest, -, -, hm⟩ | ⟨-, hm⟩ <;> rw [hm]
  · have f := e.fire_frame (u.recast rest u.draws)
    exact ⟨fun j' hj' => hu j' (f.seq.symm.trans hj'), hfire _ e (hrecast u rest hP)⟩
  · obtain ⟨l, hl⟩ := u.passMove_recast
    rw [hl]
    refine ⟨fun j' hj' => ?_, hstmt _ q hj (hrecast u l hP)⟩
    rcases (hostStep_frame i q (u.recast l u.draws)).job with hi | ⟨q', hq'⟩
    · cases hi.symm.trans hj'
    · exact ⟨q', Seq.busy.inj (hj'.symm.trans hq')⟩

/-- Inside `TRANSFER` no statement goes back to T1 (R403). -/
theorem transferStep_ne_t1 (p : TransferPos) (s : State) (v : Byte) : (transferStep p s).1 ≠ some (.t1 v) := by
  cases p with
  | t4 => simp only [transferStep]; split <;> nofun
  | _ => nofun

/-- No statement of a transaction's job goes back to its pseudocode's start, and only that start, of an LED operation,
goes to T1, with the operation's value (R410 to R413). -/
theorem hostStep_next (i : Instr) (p : HostPos) (s : State) :
    (hostStep i p s).seq ≠ .busy (.host i .body) ∧
      ∀ v, (hostStep i p s).seq = .busy (.host i (.transfer (.t1 v))) → p = .body ∧ ledValue s.led i = some v := by
  cases p with
  | body =>
    simp only [hostStep]
    split
    · next v hb => exact ⟨nofun, by rintro _ ⟨⟩; exact ⟨trivial, hostBody_transfer hb⟩⟩
    · exact ⟨nofun, nofun⟩
    · exact ⟨nofun, nofun⟩
  | transfer p =>
    rcases hostStep_transfer i p s with ⟨p', hp, e⟩ | ⟨-, e⟩ <;> rw [e]
    · refine ⟨nofun, ?_⟩
      rintro v ⟨⟩
      exact absurd hp (transferStep_ne_t1 p s v)
    · exact ⟨nofun, nofun⟩

/-- What transaction `i`, taken in a state with the registers of `s`, has written when it has come to `u`. The last two
say what its coming statements will write: its pseudocode still reads the registers of `s`, and at T1 the value sent is
the operation's. -/
structure TransactionWrites (i : Instr) (s u : State) : Prop where
  led : u.led = s.led ∨ ledValue s.led i = some u.led
  mmask : u.mmask = s.mmask ∨ maskValue s.mmask i = some u.mmask
  count : u.count = s.count
  body : u.seq = .busy (.host i .body) → u.led = s.led ∧ u.mmask = s.mmask
  start : ∀ v, u.seq = .busy (.host i (.transfer (.t1 v))) → ledValue s.led i = some v

theorem TransactionWrites.fire {i : Instr} {s u : State} (h : TransactionWrites i s u) (e : Event) :
    TransactionWrites i s (e.fire u) := by
  have f := e.fire_frame u
  refine ⟨?_, ?_, f.count.trans h.count, ?_, ?_⟩
  · exact f.led ▸ h.led
  · exact f.mmask ▸ h.mmask
  · rw [f.seq, f.led, f.mmask]; exact h.body
  · rw [f.seq]; exact h.start

theorem hostStep_transactionWrites {i : Instr} {p : HostPos} {s u : State} (hu : u.seq = .busy (.host i p))
    (h : TransactionWrites i s u) : TransactionWrites i s (hostStep i p u) := by
  have w := hostStep_writes i p u
  obtain ⟨hbody, hstart⟩ := hostStep_next i p u
  refine ⟨?_, ?_, (hostStep_frame i p u).count.trans h.count, fun hb => absurd hb hbody, fun v hv => ?_⟩
  · rcases w.led with hl | hp
    · exact hl ▸ h.led
    · have hp : p = .transfer (.t1 _) := hp
      exact .inr (h.start _ (hp ▸ hu))
  · rcases w.mmask with hm | ⟨i', hj, hm⟩
    · exact hm ▸ h.mmask
    · cases hj
      exact .inr ((h.body hu).2 ▸ hm)
  · obtain ⟨rfl, hval⟩ := hstart v hv
    exact (h.body hu).1 ▸ hval

/-- Nothing is written yet when the transaction is taken (R620). -/
theorem startHost_transactionWrites (i : Instr) (s : State) : TransactionWrites i s (s.startHost i) :=
  ⟨.inl rfl, .inl rfl, rfl, fun _ => ⟨rfl, rfl⟩, fun _ hv => by cases hv⟩

theorem runJob_transactionWrites (i : Instr) (s : State) (n : Nat) :
    TransactionWrites i s (runJob n (s.startHost i)) :=
  runJob_host_induct (P := TransactionWrites i s) (fun _ _ h => ⟨h.led, h.mmask, h.count, h.body, h.start⟩)
    (fun _ e h => h.fire e) (fun _ _ => hostStep_transactionWrites) (s := s.startHost i) (p := .body) rfl
    (startHost_transactionWrites i s) n

/-! ## Every step -/

/-- What a step can write in the three registers. -/
inductive StepWrites (s t : State) : Prop where
  /-- The reset step writes them all (R711). -/
  | reset (hp : s.phase = .reset)
  /-- A statement of the job in progress. -/
  | statement (j : Job) (hj : s.seq = .busy j) (w : StatementWrites j s t)
  /-- A host transaction, run as one step (log entry 5). -/
  | transaction (i : Instr) (l : List Input) (n : Nat) (hpl : plan s = .execute i (s.recast l n))
      (w : TransactionWrites i (s.recast l n) t)
  /-- Every other step writes none of them. -/
  | nothing (hl : t.led = s.led) (hm : t.mmask = s.mmask) (hc : t.count = s.count)

theorem step_writes {s t : State} (h : step s = .next t) : StepWrites s t := by
  obtain ⟨-, hcase⟩ := step_cases h
  cases hcase with
  | event e rest he hrun hn ht =>
    have f := e.fire_frame { s with inputs := rest }
    subst ht
    exact .nothing f.led f.mmask f.count
  | reset hp ht => exact .reset hp
  | statement j hp hj hn ht =>
    obtain ⟨l, hl⟩ := s.passMove_recast
    have w := jobStep_writes j (s.recast l s.draws)
    rw [ht, hl]
    exact .statement j hj ⟨w.led, w.mmask, w.count⟩
  | service src l n hc ht => subst ht; exact .nothing rfl rfl rfl
  | sleep hc ht => subst ht; exact .nothing s.passMove_led s.passMove_mmask s.passMove_count
  | nothing hp hb l n ht => subst ht; exact .nothing rfl rfl rfl
  | transaction i l n hc hpl ht => exact .transaction i l n hpl (ht ▸ runJob_transactionWrites i _ _)

/-- Settles O20: of a statement's writes and a transaction's, those to `MMASK`. -/
theorem maskWrittenOnlyByHost : Obligations.MaskWrittenOnlyByHost := by
  intro s t hs hne
  cases step_writes hs with
  | reset hp => exact .inl hp
  | statement j hj w =>
    obtain ⟨i, rfl, hv⟩ := w.mmask.resolve_left hne
    exact .inr (.inr ⟨i, hj, hv⟩)
  | transaction i l n hpl w => exact .inr (.inl ⟨i, _, hpl, w.mmask.resolve_left hne⟩)
  | nothing hl hm hc => exact absurd hm hne

/-- Settles O48: of a statement's writes and a transaction's, those to `LED`. -/
theorem ledWrittenOnlyByTransfer : Obligations.LedWrittenOnlyByTransfer := by
  intro s t hs hne
  cases step_writes hs with
  | reset hp => exact .inl hp
  | statement j hj w => exact .inr (.inl ⟨j, hj, w.led.resolve_left hne⟩)
  | transaction i l n hpl w => exact .inr (.inr ⟨i, _, hpl, w.led.resolve_left hne⟩)
  | nothing hl hm hc => exact absurd hl hne

/-- Settles O49: of a statement's writes those to `COUNT`, which no transaction writes. -/
theorem countWrittenOnlyByServices : Obligations.CountWrittenOnlyByServices := by
  intro s t hs hne
  cases step_writes hs with
  | reset hp => exact .inl hp
  | statement j hj w =>
    rcases w.count.resolve_left hne with ⟨rfl | rfl, hc⟩ | ⟨rfl, hc⟩
    · exact .inr (.inl ⟨.inl hj, hc⟩)
    · exact .inr (.inl ⟨.inr hj, hc⟩)
    · exact .inr (.inr ⟨hj, hc⟩)
  | transaction i l n hpl w => exact absurd w.count hne
  | nothing hl hm hc => exact absurd hc hne

end Sys2Proof.Machine
end

section
/-! Proofs of the statements on the host's accesses (20_memory.md R203, R205, R206): the refusal of a reserved
transaction, the 16-bit registers as byte pairs, and the order of the serial link's bits. -/

namespace Sys2Proof

/-! ## Which words decode to what -/

/-- A read's word decodes by its address alone (R301, R303). -/
theorem decode_word_read (a : BitVec 4) (d : Byte) : decode (word false a d) = decodeRead a := by
  simp [decode, Laws.EncodesUnreserved.fieldW_word, Laws.EncodesUnreserved.fieldA_word]

/-- Writes above address 5 are reserved (R304). -/
theorem decodeWrite_reserved {a : BitVec 4} (d : Byte) (h : 6 ≤ a.toNat) : decodeWrite a d = .reserved true a := by
  unfold decodeWrite
  split
  case h_7 => rfl
  all_goals exact absurd h (by decide)

/-- Reads of an address without a readable register are reserved (R304). -/
theorem decodeRead_reserved :
    ∀ {a : BitVec 4}, a.toNat ∈ [1, 2, 3, 5, 13, 14, 15] → decodeRead a = .reserved false a := by
  decide

/-- A word with a pair of R304 decodes to no instruction. -/
theorem decode_reserved {t : Txn} (h : (fieldW t = true ∧ 6 ≤ (fieldA t).toNat) ∨
    (fieldW t = false ∧ (fieldA t).toNat ∈ [1, 2, 3, 5, 13, 14, 15])) :
    decode t = .reserved (fieldW t) (fieldA t) := by
  rcases h with ⟨hw, ha⟩ | ⟨hw, ha⟩
  · simp [decode, hw, decodeWrite_reserved _ ha]
  · simp [decode, hw, decodeRead_reserved ha]

end Sys2Proof

namespace Sys2Proof.Machine

open Sys2Proof.Safety

/-! ## The dispatch step's move -/

/-- The sequencer takes the only candidate (R620). -/
theorem plan_onlyCandidate {s : State} {p : Pick} (hs : Ready s) (hc : s.candidates = [p]) (ht : SequencerTurn s) :
    plan s = dispatch p s.passMove := by
  have hc' : s.passMove.candidates = [p] := by
    obtain ⟨l, hl⟩ := s.passMove_recast
    rw [hl, State.candidates_recast, hc]
  have hmove : sequencerMove s.passMove = dispatchMove s.passMove := by
    rcases State.isBusy_false hs.free with hq | hq <;> simp [sequencerMove, hs.run, hq]
  rw [plan, if_pos hs.legal, ht]
  simp only [hmove, dispatchMove, hc']

/-- The sequencer takes the candidate it is told to (R312, R620). -/
theorem plan_prescribed {s : State} {p : Pick} {rest : List Input} (hs : Ready s) (hc : p ∈ s.candidates)
    (hi : s.inputs = atOnce (.run p) :: rest) : plan s = dispatch p (s.withInputs rest) := by
  have he : (Event.run p).enabled s = true := by
    simp [Event.enabled, State.canTake_iff.2 ⟨hs.run, hs.free⟩, hc]
  rw [plan, if_pos hs.legal, State.nextEvent_atOnce hi he]
  rfl

/-- Taking a reserved transaction is refused (R203, R601). -/
theorem dispatch_reserved {s : State} {t : Txn} {w : Bool} {a : BitVec 4} (ho : s.offered = some t)
    (hd : decode t = .reserved w a) : dispatch .host s = .refuse .reservedAccess := by
  simp [dispatch, ho, hd]

/-- Settles O7: both ways the dispatch step takes the offered word, which decodes to no instruction. -/
theorem reservedRefused : Obligations.ReservedRefused := by
  intro s t hs ho hr
  have hd := decode_reserved hr
  constructor
  · intro hc ht
    rw [step, plan_onlyCandidate hs hc ht, dispatch_reserved (s.passMove_offered.trans ho) hd]
  · intro rest hc hi
    rw [step, plan_prescribed hs hc hi, dispatch_reserved (s := s.withInputs rest) ho hd]

/-! ## Reads with nothing coming meanwhile -/

/-- A read's pseudocode is `response <- b` with its register's byte (R414, R422, R470, R520 to R524). -/
theorem hostBody_read {s : State} {i : Instr} {b : Byte} (h : readValue s i = some b) : hostBody i s = .reply b := by
  cases i <;> cases h <;> rfl

/-- A transaction that answers with a byte completes in its one statement (R209, R631). -/
theorem exec_reply {s : State} {i : Instr} {b : Byte} (hs : Ready s) (hi : Patient s.inputs)
    (hb : hostBody i (s.startHost i) = .reply b) : exec i s = .next (answered (.response b) s) := by
  have hstep : hostStep i .body (s.startHost i) = answered (.response b) s := by
    simp only [hostStep, hb]
    rfl
  rw [exec_taken hs, State.hostFuel, runJob_statement (s := s.startHost i) rfl hi rfl]
  simp only [jobStep, hstep]
  rw [runJob_done rfl]

/-- Taking a transaction leaves every register that a read answers with. -/
theorem readValue_startHost (s : State) (i j : Instr) : readValue (s.startHost i) j = readValue s j := by
  cases j <;> rfl

/-- A response leaves every register that a read answers with (R210). -/
theorem readValue_answered (s : State) (o : Obs) (j : Instr) : readValue (answered o s) j = readValue s j := by
  cases j <;> rfl

/-- A read with nothing coming meanwhile responds with its register's byte (R210, R631). -/
theorem exec_read {s : State} {i : Instr} {b : Byte} (hs : Ready s) (hi : Patient s.inputs)
    (hv : readValue s i = some b) : exec i s = .next (answered (.response b) s) :=
  exec_reply hs hi (hostBody_read ((readValue_startHost s i i).trans hv))

/-- The sequencer can take the next transaction when one is over (R631). -/
theorem ready_answered {s : State} (hs : Ready s) (o : Obs) : Ready (answered o s) := ⟨hs.legal, hs.run, rfl⟩

/-- Two reads, one after the other, respond with their registers' bytes in that order (R221). -/
theorem execAll_two_reads {s : State} {i j : Instr} {b c : Byte} (hs : Ready s) (hi : Patient s.inputs)
    (hb : readValue s i = some b) (hc : readValue s j = some c) :
    ∃ t, execAll [i, j] s = .next t ∧ t.obs = s.obs ++ [.response b, .response c] := by
  have hj := exec_read (s := answered (.response b) s) (ready_answered hs _) hi
    ((readValue_answered s _ j).trans hc)
  refine ⟨answered (.response c) (answered (.response b) s), ?_, List.append_assoc ..⟩
  simp only [execAll, exec_read hs hi hb, hj]

/-- Settles O24: the addresses' rows, and each register's two reads one after the other. -/
theorem halfReadAsBytePair : Obligations.HalfReadAsBytePair := by
  refine ⟨fun d => ⟨decode_word_read _ d, decode_word_read _ d, decode_word_read _ d, decode_word_read _ d⟩, ?_⟩
  intro s hs hi
  constructor
  · obtain ⟨t, ht, ho⟩ := execAll_two_reads (i := .rdTsamplel) (j := .rdTsampleh) hs hi rfl rfl
    exact ⟨t, _, _, ht, ho, BitVec.extractLsb'_append_extractLsb'⟩
  · obtain ⟨t, ht, ho⟩ := execAll_two_reads (i := .rdTbasel) (j := .rdTbaseh) hs hi rfl rfl
    exact ⟨t, _, _, ht, ho, BitVec.extractLsb'_append_extractLsb'⟩

/-! ## The serial link -/

/-- The bits sent are numbers 7 down to 0 of the byte (R206). -/
theorem serialBits_eq_map (v : Byte) : serialBits v = (List.range 8).map (fun n => v.getLsbD (7 - n)) := rfl

/-- Settles O16: the order of the bits, and the stage after them. -/
theorem serialOrder : Obligations.SerialOrder :=
  fun stage v => ⟨serialBits_eq_map v, shiftByte_eq stage v⟩

end Sys2Proof.Machine
end

section
/-! Proofs of the statements on the encoding (30_encoding.md R300 to R305): a word and its three fields, the decoder's
rows read against the encoder's, and the reserved pairs. -/

namespace Sys2Proof

open Laws.EncodesUnreserved (fieldW_word fieldA_word)

/-! ## A word and its fields -/

/-- A word's field `D` is the one it was built from (R300). -/
theorem fieldD_word (w : Bool) (a : BitVec 4) (d : Byte) : fieldD (word w a d) = d :=
  BitVec.extractLsb'_append_eq_right

/-- Field `W` is the word's part of one bit above bit 11 (R300). -/
theorem ofBool_fieldW (t : Txn) : BitVec.ofBool (fieldW t) = t.extractLsb' 12 1 := by
  ext n hn
  obtain rfl : n = 0 := by omega
  simp [fieldW]

/-- The three fields are the whole word: the word built from them is the word itself (R300). -/
theorem word_fields (t : Txn) : word (fieldW t) (fieldA t) (fieldD t) = t := by
  have hwa : t.extractLsb' 12 1 ++ t.extractLsb' 8 4 = t.extractLsb' 8 5 :=
    BitVec.extractLsb'_append_extractLsb'_eq_extractLsb' rfl
  rw [word, ofBool_fieldW, fieldA, fieldD, hwa]
  exact BitVec.extractLsb'_append_extractLsb'

/-! ## The decoder by its rows -/

/-- A write's word decodes by the rows with `W` = 1, with its data as it stands (R303). -/
theorem decode_word_write (a : BitVec 4) (d : Byte) : decode (word true a d) = decodeWrite a d := by
  simp [decode, fieldW_word, fieldA_word, fieldD_word]

/-- The write an address and its data select has the word of that address and data (R303). -/
theorem encode_of_decodeWrite {a : BitVec 4} {d : Byte} {i : Instr} (h : decodeWrite a d = .instr i) :
    encode i = word true a d := by
  unfold decodeWrite at h
  split at h <;> cases h <;> rfl

/-- The read an address selects has the word of that address with data 0 (R301, R303). -/
theorem encode_of_decodeRead {a : BitVec 4} {i : Instr} (h : decodeRead a = .instr i) :
    encode i = word false a 0 := by
  unfold decodeRead at h
  split at h <;> cases h <;> rfl

/-- A write below address 6 is a row of R303. -/
theorem decodeWrite_instr_or_ge (a : BitVec 4) (d : Byte) :
    (∃ i, decodeWrite a d = .instr i) ∨ 6 ≤ a.toNat := by
  unfold decodeWrite
  split
  case h_7 => exact .inr (by simp only [imp_false] at *; bv_omega)
  all_goals exact .inl ⟨_, rfl⟩

/-- A read of an address with a readable register is a row of R303. -/
theorem decodeRead_instr_or_mem (a : BitVec 4) :
    (∃ i, decodeRead a = .instr i) ∨ a.toNat ∈ [1, 2, 3, 5, 13, 14, 15] := by
  unfold decodeRead
  split
  case h_10 => exact .inr (by simp only [imp_false, List.mem_cons] at *; bv_omega)
  all_goals exact .inl ⟨_, rfl⟩

/-- A word without a pair of R304 is a row of R303. -/
theorem decode_instr_or_reservedFields (t : Txn) :
    (∃ i, decode t = .instr i) ∨ (fieldW t = true ∧ 6 ≤ (fieldA t).toNat) ∨
      (fieldW t = false ∧ (fieldA t).toNat ∈ [1, 2, 3, 5, 13, 14, 15]) := by
  cases hw : fieldW t with
  | true => simpa [decode, hw] using decodeWrite_instr_or_ge (fieldA t) (fieldD t)
  | false => simpa [decode, hw] using decodeRead_instr_or_mem (fieldA t)

/-- Whether a write is reserved is a matter of its address (R304). -/
theorem decodeWrite_reserved_congr {a a' : BitVec 4} {d : Byte} {w : Bool} (e : Byte)
    (h : decodeWrite a d = .reserved w a') : decodeWrite a e = .reserved w a' := by
  rcases decodeWrite_instr_or_ge a d with ⟨i, hi⟩ | ha
  · cases hi.symm.trans h
  · rw [decodeWrite_reserved e ha, ← decodeWrite_reserved d ha, h]

/-! ## The statements -/

/-- Settles O1: each canonical word selects its instruction's row of R303. -/
theorem decodeOfEncode : Obligations.DecodeOfEncode := by
  intro i
  cases i with
  | ledAssign d | ledSet d | ledClr d | ledTgl d | mmaskEn d | mmaskDis d => exact decode_word_write _ d
  | rdLed | rdMmask | rdCount | rdTstat | rdTsamplel | rdTsampleh | rdTbasel | rdTbaseh | rdFlags =>
    exact decode_word_read _ 0

/-- Settles O2: the word taken apart into its fields, and the row they select. -/
theorem encodeOfDecode : Obligations.EncodeOfDecode := by
  intro t i h
  obtain ⟨w, a, d, rfl⟩ : ∃ w a d, t = word w a d := ⟨_, _, _, (word_fields t).symm⟩
  cases w with
  | true =>
    rw [decode_word_write] at h
    simp [encode_of_decodeWrite h]
  | false =>
    rw [decode_word_read] at h
    simp [encode_of_decodeRead h, fieldW_word, fieldA_word]

/-- Settles O3: a word is a row of R303 or has a pair of R304, and with such a pair it is reserved. -/
theorem reservedEncodings : Obligations.ReservedEncodings := by
  intro t
  rcases decode_instr_or_reservedFields t with ⟨i, hi⟩ | hr
  · refine ⟨⟨?_, fun hr => ⟨_, _, decode_reserved hr⟩⟩, .inl ⟨i, hi⟩⟩
    rintro ⟨w, a, h⟩
    cases hi.symm.trans h
  · exact ⟨⟨fun _ => hr, fun _ => ⟨_, _, decode_reserved hr⟩⟩, .inr (decode_reserved hr)⟩

/-- Settles O4: a read decodes by its address, a reserved write too, and the six writes carry their data. -/
theorem dataNeverSelects : Obligations.DataNeverSelects := by
  intro w a d e
  refine ⟨by rw [decode_word_read, decode_word_read], fun w' a' h => ?_, decode_word_write _ d, decode_word_write _ d,
    decode_word_write _ d, decode_word_write _ d, decode_word_write _ d, decode_word_write _ d⟩
  cases w with
  | true =>
    rw [decode_word_write] at h ⊢
    exact decodeWrite_reserved_congr e h
  | false =>
    rw [decode_word_read] at h ⊢
    exact h

/-- Settles O5: fourteen closed words, each decoded by evaluation. -/
theorem wordsDecode : Obligations.WordsDecode := by
  unfold Obligations.WordsDecode
  decide

end Sys2Proof
end

section
/-! Proofs of the statements on the LED driver (40_led_driver.md R403 to R413, R415): the transactions' words, an LED
operation with its completion coming and with nothing coming, and LED operations in order. -/

namespace Sys2Proof.Machine

open Sys2Proof.Safety

/-! ## The transactions' words -/

/-- The operand of a word stands in its low eight bits (R300). -/
theorem word_eq_or (w : Bool) (a : BitVec 4) (d : Byte) : word w a d = word w a 0 ||| d.setWidth 13 := by
  have happ : ∀ e : Byte, word w a e = (BitVec.ofBool w ++ a).shiftLeftZeroExtend 8 ||| e.setWidth' (by decide) :=
    fun e => BitVec.append_def ..
  rw [happ d, happ 0, show BitVec.setWidth' (by decide) (0 : Byte) = 0#13 from rfl, BitVec.or_zero, BitVec.setWidth'_eq]

/-- A write's canonical word is its row's word `t`, with the operand in it, and decodes to the write (R303). -/
theorem write_word {i : Instr} {a : BitVec 4} {d : Byte} {t : Txn} (h : encode i = word true a d)
    (ht : word true a 0 = t) : encode i = t ||| d.setWidth 13 ∧ decode (t ||| d.setWidth 13) = .instr i := by
  rw [← ht, ← word_eq_or, ← h]
  exact ⟨rfl, decodeOfEncode i⟩

/-! ## An LED operation that waits only for its completion -/

/-- An LED operation's pseudocode is `TRANSFER(v)` with R410 to R413's value. -/
theorem hostBody_ledOperation {i : Instr} {s : State} {v : Byte} (h : ledValue s.led i = some v) :
    hostBody i s = .transfer v := by
  cases i <;> cases h <;> rfl

/-- The block with LED operation `i`, which transfers `v`, at T4 before its completion (R403). -/
def awaiting (i : Instr) (v : Byte) (s : State) : State :=
  { s with
    offered := none, seq := .busy (.host i (.transfer .t4)), led := v, spiEn := true, spiData := v, spiBusy := true }

/-- With no event before its hold an LED operation comes to T4 in four statements: its pseudocode, T1, T2 and T3. -/
theorem runJob_to_t4 {i : Instr} {v : Byte} {s : State} (hv : ledValue s.led i = some v) (hi : Patient s.inputs)
    (n : Nat) : runJob (n + 4) (s.startHost i) = runJob n (awaiting i v s) := by
  have hb : hostBody i (s.startHost i) = .transfer v := hostBody_ledOperation (s := s.startHost i) hv
  calc runJob (n + 4) (s.startHost i)
    _ = runJob (n + 3) (jobStep (.host i .body) (s.startHost i)) := runJob_statement rfl hi rfl
    _ = runJob (n + 3) ((s.startHost i).goto (.host i (.transfer (.t1 v)))) := by
      simp only [jobStep, hostStep, hb]
    _ = runJob (n + 2) _ := runJob_statement rfl hi rfl
    _ = runJob (n + 1) _ := runJob_statement rfl hi rfl
    _ = runJob n _ := runJob_statement rfl hi rfl
    _ = runJob n (awaiting i v s) := rfl

/-- A move that changes nothing is all that follows (R407, log entry 20). -/
theorem runJob_fixed {s : State} {j : Job} (hj : s.seq = .busy j) (h : jobMove j s = s) : ∀ n, runJob n s = s
  | 0 => rfl
  | n + 1 => by rw [runJob_busy hj, h, runJob_fixed hj h n]

/-- With nothing coming an LED operation is held at T4 (R407). -/
theorem exec_ledOperation_holds {i : Instr} {v : Byte} {s : State} (hs : Ready s) (hq : SpiIdle s)
    (hv : ledValue s.led i = some v) (hi : s.inputs = []) : exec i s = .next (awaiting i v s) := by
  have hfix : jobMove (.host i (.transfer .t4)) (awaiting i v s) = awaiting i v s := by
    rw [jobMove, State.nextEvent_nil (s := awaiting i v s) hi, State.passMove_nil (s := awaiting i v s) hi]
    exact jobStep_t4_hold (.inl ⟨i, rfl⟩) rfl hq.tc
  have hf : s.hostFuel = 4 + 4 := by simp [State.hostFuel, hi]
  rw [exec_taken hs, hf, runJob_to_t4 hv (by simp [hi, Patient]), runJob_fixed rfl hfix]

/-- `SPI_DONE` moves the byte sent into the stage (R404, R406). -/
theorem spiDoneEvent_eq (s : State) :
    spiDoneEvent s = { s with sr := s.spiData, spiBusy := false, spiTc := true } := by
  simp only [spiDoneEvent, shiftByte_eq]

/-- The block with LED operation `i`, which transfers `v`, at T4 after its completion (R403, R406). -/
def completed (i : Instr) (v : Byte) (s : State) : State :=
  { awaiting i v s with sr := v, spiBusy := false, spiTc := true }

/-- The completion that comes when the operation is held at T4 is its next move (R406). -/
theorem jobMove_awaiting {i : Instr} {v : Byte} {s : State} {rest : List Input} (hs : Ready s) (hq : SpiIdle s)
    (hi : s.inputs = lazily .spiDone :: rest) :
    jobMove (.host i (.transfer .t4)) (awaiting i v s) = (completed i v s).withInputs rest := by
  have hrest : (awaiting i v s).atRest = true := by simp [State.atRest, awaiting, Job.holds, hs.run, hq.tc]
  rw [jobMove, State.nextEvent_lazily (s := awaiting i v s) hi hrest rfl]
  exact spiDoneEvent_eq ((awaiting i v s).withInputs rest)

/-- After its completion, and with no event before its end, an LED operation ends in four statements, T4 to T7. -/
theorem runJob_completed {i : Instr} {v : Byte} {s : State} {rest : List Input} (hr : Patient rest) (n : Nat) :
    runJob (n + 4) ((completed i v s).withInputs rest) = (answered .done (transferred v s)).withInputs rest :=
  calc runJob (n + 4) ((completed i v s).withInputs rest)
    _ = runJob (n + 3) _ := runJob_statement rfl hr rfl
    _ = runJob (n + 2) _ := runJob_statement rfl hr rfl
    _ = runJob (n + 1) _ := runJob_statement rfl hr rfl
    _ = runJob n _ := runJob_statement rfl hr rfl
    _ = (answered .done (transferred v s)).withInputs rest := runJob_done rfl

/-- With its completion coming, and nothing before it, an LED operation transfers its value (R403, R405, R409). -/
theorem exec_ledOperation_completes {i : Instr} {v : Byte} {s : State} {rest : List Input} (hs : Ready s)
    (hq : SpiIdle s) (hv : ledValue s.led i = some v) (hi : s.inputs = lazily .spiDone :: rest) (hr : Patient rest) :
    exec i s = .next ((answered .done (transferred v s)).withInputs rest) := by
  have hf : s.hostFuel = (rest.map fun i => i.due.moves).sum + 4 + 1 + 4 := by
    simp [State.hostFuel, hi, lazily, Due.moves]; omega
  have hpat : Patient s.inputs := by simp [hi, Patient, lazily]
  rw [exec_taken hs, hf, runJob_to_t4 hv hpat, runJob_busy rfl, jobMove_awaiting hs hq hi, runJob_completed hr]

/-- Settles O10: its row's word, and the operation with its completion coming and with nothing coming. -/
theorem ledAssignEffect : Obligations.LedAssignEffect := fun _ _ hs hq =>
  ⟨write_word rfl (by decide), fun _ => exec_ledOperation_completes hs hq rfl, exec_ledOperation_holds hs hq rfl⟩

/-- Settles O11: as `ledAssignEffect`, with the value `LED | d`. -/
theorem ledSetEffect : Obligations.LedSetEffect := fun _ _ hs hq =>
  ⟨write_word rfl (by decide), fun _ => exec_ledOperation_completes hs hq rfl, exec_ledOperation_holds hs hq rfl⟩

/-- Settles O12: as `ledAssignEffect`, with the value `LED & ~d`. -/
theorem ledClrEffect : Obligations.LedClrEffect := fun _ _ hs hq =>
  ⟨write_word rfl (by decide), fun _ => exec_ledOperation_completes hs hq rfl, exec_ledOperation_holds hs hq rfl⟩

/-- Settles O13: as `ledAssignEffect`, with the value `LED ^ d`. -/
theorem ledTglEffect : Obligations.LedTglEffect := fun _ _ hs hq =>
  ⟨write_word rfl (by decide), fun _ => exec_ledOperation_completes hs hq rfl, exec_ledOperation_holds hs hq rfl⟩

/-- Settles O17: the event's move, or its waiting. -/
theorem spiDoneEffect : Obligations.SpiDoneEffect := by
  intro s rest hl hi
  constructor
  · intro hb
    rw [step, plan, if_pos hl, State.nextEvent_atOnce hi hb]
    exact congrArg Host.Outcome.next (spiDoneEvent_eq (s.withInputs rest))
  · exact State.nextEvent_not_enabled hi

/-! ## LED operations in order -/

/-- Whether an instruction is an LED operation does not depend on `LED` (R410 to R413). -/
theorem ledValue_some {i : Instr} (led : Byte) (h : (ledValue 0 i).isSome = true) : ∃ v, ledValue led i = some v := by
  cases i <;> cases h <;> exact ⟨_, rfl⟩

/-- LED operations executed in order, each completion coming in time (R415). An empty list leaves `Q` at `LED` only if it
was there before, which the induction needs of every first operation. -/
theorem execAll_ledOperations (is : List Instr) (s : State) (hled : ∀ i ∈ is, (ledValue 0 i).isSome = true)
    (hs : Ready s) (hq : SpiIdle s) (hi : s.inputs = List.replicate is.length (lazily .spiDone)) :
    ∃ t, execAll is s = .next t ∧ t.led = ledAfter s.led is ∧
      t.obs = s.obs ++ (ledValues s.led is).flatMap (fun v => [.latch v, .done]) ∧
      (is ≠ [] ∨ s.q = s.led → t.q = t.led) := by
  induction is generalizing s with
  | nil => exact ⟨s, rfl, rfl, by simp [ledValues], by simp⟩
  | cons i is ih =>
    obtain ⟨v, hv⟩ := ledValue_some s.led (hled i List.mem_cons_self)
    have hpat : Patient (List.replicate is.length (lazily .spiDone)) := fun x hx =>
      (List.eq_of_mem_replicate (List.mem_of_mem_head? hx)).symm ▸ rfl
    have hexec := exec_ledOperation_completes hs hq hv hi hpat
    obtain ⟨t, ht, hlast, hobs, hqled⟩ := ih ((answered .done (transferred v s)).withInputs _)
      (fun j hj => hled j (List.mem_cons_of_mem i hj)) ⟨hs.legal, hs.run, rfl⟩ ⟨rfl, rfl, rfl⟩ rfl
    have hlast : t.led = ledAfter v is := hlast
    have hobs : t.obs = s.obs ++ [.latch v] ++ [.done] ++ (ledValues v is).flatMap fun v => [.latch v, .done] := hobs
    refine ⟨t, ?_, ?_, ?_, fun _ => hqled (.inr rfl)⟩
    · simpa only [execAll, hexec] using ht
    · simpa only [ledAfter, ledValues, hv, List.getLastD_cons] using hlast
    · simpa [ledValues, hv] using hobs

/-- Settles O15: by induction on the list of operations. -/
theorem ledSequenceLaw : Obligations.LedSequenceLaw := by
  intro is s hled hs hq hi
  obtain ⟨t, ht, hled', hobs, hqled⟩ := execAll_ledOperations is s hled hs hq hi
  exact ⟨t, ht, hled', hobs, fun hne => hqled (.inl hne)⟩

end Sys2Proof.Machine
end

section
/-! Proofs of the statements on a transaction's run whatever comes meanwhile (40_led_driver.md R403, R407, R408, R414):
that it comes to its end or to its hold, what an LED operation has done at each of its statements, and what a step can
write in `Q`, `SR` and `LATCH`. -/

namespace Sys2Proof.Machine

open Sys2Proof.Safety

/-! ## A run comes to its end or to its hold -/

/-- The statements of a transaction's job from this one to its last (R209, R403). -/
def HostPos.statements : HostPos → Nat
  | .body => 8
  | .transfer (.t1 _) => 7
  | .transfer (.t2 _) => 6
  | .transfer (.t3 _) => 5
  | .transfer .t4 => 4
  | .transfer .t5 => 3
  | .transfer .t6 => 2
  | .transfer .t7 => 1

/-- The statements of the transaction in progress still to come. -/
def Seq.statements : Seq → Nat
  | .busy (.host _ p) => p.statements
  | _ => 0

/-- The moves that the coming events can take up. -/
def State.delay (s : State) : Nat := (s.inputs.map (fun i => i.due.moves)).sum

/-- A bound on the moves left to the transaction in progress; `State.hostFuel` is this bound at its start. -/
def State.work (s : State) : Nat := s.delay + s.seq.statements

theorem Due.moves_pos (d : Due) : 0 < d.moves := by
  cases d <;> simp [Due.moves]

/-- A sequencer's move counts the first event's delay down, if there is a delay to count. -/
theorem State.passMove_delay (s : State) : s.passMove = s ∨ s.passMove.delay < s.delay := by
  unfold State.passMove
  split
  · exact .inl rfl
  · next i rest hi =>
    obtain ⟨_ | _ | n, ev⟩ := i
    · exact .inl (hi ▸ rfl)
    · exact .inl (hi ▸ rfl)
    · exact .inr (by simp [State.delay, hi, Due.tickDown, Due.moves])

theorem hostStep_inputs (i : Instr) (p : HostPos) (s : State) : (hostStep i p s).inputs = s.inputs := by
  cases p with
  | body => simp only [hostStep]; split <;> rfl
  | transfer p =>
    have f := transferStep_frame p s
    rcases hostStep_transfer i p s with ⟨p', -, e⟩ | ⟨-, e⟩ <;> rw [e] <;> exact f.inputs

/-- Every statement brings a transaction nearer to its end, but for an `await` that holds (R403, R407). -/
theorem hostStep_statements (i : Instr) (p : HostPos) (s : State) :
    (hostStep i p s).seq.statements < p.statements ∨ p = .transfer .t4 ∧ s.spiTc = false := by
  cases p with
  | body =>
    simp only [hostStep]
    split <;> exact .inl (by simp [Seq.statements, HostPos.statements])
  | transfer p =>
    cases p with
    | t4 =>
      cases ht : s.spiTc with
      | false => exact .inr ⟨rfl, rfl⟩
      | true => exact .inl (by simp [hostStep, transferStep, ht, Seq.statements, HostPos.statements])
    | _ => exact .inl (Nat.lt_succ_self _)

/-- Every move brings a transaction nearer to its end, or it is held at T4 and the move changes nothing (R407). -/
theorem jobMove_work {i : Instr} {p : HostPos} {s : State} (hs : s.seq = .busy (.host i p)) :
    (jobMove (.host i p) s).work < s.work ∨
      p = .transfer .t4 ∧ s.spiTc = false ∧ jobMove (.host i p) s = s := by
  have hwork : s.work = s.delay + p.statements := by simp [State.work, hs, Seq.statements]
  cases hn : s.nextEvent with
  | some x =>
    obtain ⟨e, s'⟩ := x
    obtain ⟨x, rest, hi, -, -, -, rfl⟩ := State.nextEvent_some hn
    have f := e.fire_frame { s with inputs := rest }
    have hpos := x.due.moves_pos
    left
    simp only [jobMove, hn, State.work, State.delay, f.inputs, f.seq, hi, List.map_cons, List.sum_cons]
    omega
  | none =>
    have hmove : jobMove (.host i p) s = hostStep i p s.passMove := by simp only [jobMove, hn, jobStep]
    have hdelay : (hostStep i p s.passMove).delay = s.passMove.delay := by simp only [State.delay, hostStep_inputs]
    rw [hmove, hwork, State.work, hdelay]
    rcases hostStep_statements i p s.passMove with hlt | ⟨rfl, ht⟩
    · rcases s.passMove_delay with hp | hp
      · rw [hp] at hlt ⊢
        omega
      · omega
    · have hseq : s.passMove.seq = .busy (.host i (.transfer .t4)) := s.passMove_seq.trans hs
      have hhold : hostStep i (.transfer .t4) s.passMove = s.passMove := jobStep_t4_hold (.inl ⟨i, rfl⟩) hseq ht
      rw [hhold, hseq]
      rcases s.passMove_delay with hp | hp
      · exact .inr ⟨rfl, hp ▸ ht, hp⟩
      · exact .inl (Nat.add_lt_add_right hp _)

/-- A transaction held at T4 for ever: no event that is coming can happen, nor is a delay counted down (R407). -/
structure HeldAtT4 (i : Instr) (t : State) : Prop where
  seq : t.seq = .busy (.host i (.transfer .t4))
  tc : t.spiTc = false
  fixed : jobMove (.host i (.transfer .t4)) t = t

/-- What holds at a transaction's start, and is kept by every event that can happen and by every statement of its job,
holds when it has come to its end or to its hold (R209, R407). -/
theorem runJob_host_outcome {i : Instr} {P : State → Prop}
    (hevent : ∀ u l (e : Event) p, u.seq = .busy (.host i p) → P u → e.enabled u = true →
      P (e.fire (u.recast l u.draws)))
    (hstmt : ∀ u l p, u.seq = .busy (.host i p) → P u → P (hostStep i p (u.recast l u.draws)))
    (n : Nat) {s : State} {p : HostPos} (hs : s.seq = .busy (.host i p)) (h : P s) (hn : s.work ≤ n) :
    P (runJob n s) ∧ ((runJob n s).seq = .idle ∨ HeldAtT4 i (runJob n s)) := by
  rcases jobMove_work hs with hlt | ⟨rfl, ht, hfix⟩
  · cases n with
    | zero => omega
    | succ n =>
      have hnext : P (jobMove (.host i p) s) ∧
          ((jobMove (.host i p) s).seq = .idle ∨ ∃ q, (jobMove (.host i p) s).seq = .busy (.host i q)) := by
        rcases jobMove_cases hs with ⟨e, rest, he, -, hm⟩ | ⟨-, hm⟩
        · rw [hm]
          exact ⟨hevent s rest e p hs h ((enabled_recast e s rest s.draws).symm.trans he),
            .inr ⟨p, (e.fire_frame _).seq.trans hs⟩⟩
        · obtain ⟨l, hl⟩ := s.passMove_recast
          rw [hm, hl]
          exact ⟨hstmt s l p hs h, (hostStep_frame i p _).job⟩
      rw [runJob_busy hs]
      rcases hnext with ⟨hP, hidle | ⟨q, hq⟩⟩
      · rw [runJob_done (by simp [State.isBusy, hidle])]
        exact ⟨hP, .inl hidle⟩
      · exact runJob_host_outcome hevent hstmt n hq hP (by omega)
  · rw [runJob_fixed hs hfix]
    exact ⟨h, .inr ⟨hs, ht, hfix⟩⟩

/-! ## What stays during a transaction -/

theorem hostFrame_trans {s t u : State} (h : HostFrame s t) (h' : HostFrame t u) : HostFrame s u where
  cfg := h'.cfg.trans h.cfg
  phase := h'.phase.trans h.phase
  count := h'.count.trans h.count
  tsample := h'.tsample.trans h.tsample
  tbase := h'.tbase.trans h.tbase
  tstate := h'.tstate.trans h.tstate
  tdeb := h'.tdeb.trans h.tdeb
  adcMux := h'.adcMux.trans h.adcMux
  adcBusy := h'.adcBusy.trans h.adcBusy
  adcResRdy := h'.adcResRdy.trans h.adcResRdy
  adcRes := h'.adcRes.trans h.adcRes
  padMode := h'.padMode.trans h.padMode
  draws := h'.draws.trans h.draws
  motionPend := h'.motionPend ∘ h.motionPend
  tickPend := h'.tickPend ∘ h.tickPend
  scanPend := h'.scanPend ∘ h.scanPend

/-- The state at the start of a transaction differs in no register (R620). -/
theorem startHost_hostFrame (i : Instr) (s : State) : HostFrame s (s.startHost i) :=
  ⟨rfl, rfl, rfl, rfl, rfl, rfl, rfl, rfl, rfl, rfl, rfl, rfl, rfl, id, id, id⟩

/-- While the ADC is idle an event changes no register but flags and the pin (R487, R610). -/
theorem fire_hostFrame {u : State} {e : Event} (ha : u.adcBusy = false) (he : e.enabled u = true) (l : List Input) :
    HostFrame u (e.fire (u.recast l u.draws)) := by
  have f := e.fire_frame (u.recast l u.draws)
  obtain ⟨hbusy, hrdy, hres⟩ := Event.fire_adc (e := e) (u.recast l u.draws) (by
    rintro r rfl
    exact absurd he (by simp [Event.enabled, ha]))
  exact ⟨f.cfg, f.phase, f.count, f.tsample, f.tbase, f.tstate, f.tdeb, f.adcMux, hbusy, hrdy, hres, f.padMode,
    f.draws, f.motionPend, f.tickPend, f.scanPend⟩

/-- The completion comes only while the serial link is busy (R406). -/
theorem ne_spiDone {u : State} {e : Event} (hb : u.spiBusy = false) (he : e.enabled u = true) : e ≠ .spiDone := by
  rintro rfl
  exact absurd he (by simp [Event.enabled, hb])

/-- An event other than the completion changes nothing of the LED driver and the serial link (R406, R408). -/
theorem fire_ledFrame {u : State} {e : Event} (hne : e ≠ .spiDone) (l : List Input) :
    LedFrame u (e.fire (u.recast l u.draws)) := by
  have f := e.fire_frame (u.recast l u.draws)
  obtain ⟨hbusy, htc, hsr⟩ := Event.fire_spi (u.recast l u.draws) hne
  exact ⟨f.led, f.spiEn, hbusy, htc, f.spiData, hsr, f.q, f.latch⟩

/-- A statement of a transaction changes none of the other units' registers (R408, R423). -/
theorem hostStep_hostFrame (i : Instr) (p : HostPos) (u : State) (l : List Input) :
    HostFrame u (hostStep i p (u.recast l u.draws)) := by
  cases p with
  | body =>
    simp only [hostStep]
    split <;> exact ⟨rfl, rfl, rfl, rfl, rfl, rfl, rfl, rfl, rfl, rfl, rfl, rfl, rfl, id, id, id⟩
  | transfer p =>
    have f := transferStep_frame p (u.recast l u.draws)
    have h : HostFrame u (transferStep p (u.recast l u.draws)).2 :=
      ⟨f.cfg, f.phase, f.count, f.tsample, f.tbase, f.tstate, f.tdeb, f.adcMux, f.adcBusy, f.adcResRdy, f.adcRes,
        f.padMode, f.draws, f.motionPend.trans, f.tickPend.trans, f.scanPend.trans⟩
    rcases hostStep_transfer i p (u.recast l u.draws) with ⟨p', -, e⟩ | ⟨-, e⟩ <;> rw [e] <;> exact { h with }

/-! ## A transaction of one statement -/

/-- From `s` to `u` only events have happened, with both peripherals idle. -/
structure Waited (s u : State) : Prop where
  frame : HostFrame s u
  link : LedFrame s u
  mmask : u.mmask = s.mmask
  obs : u.obs = s.obs

theorem Waited.fire {s u : State} {e : Event} (h : Waited s u) (hq : SpiIdle s) (ha : AdcIdle s)
    (he : e.enabled u = true) (l : List Input) : Waited s (e.fire (u.recast l u.draws)) := by
  have f := e.fire_frame (u.recast l u.draws)
  have g := fire_ledFrame (u := u) (ne_spiDone (h.link.spiBusy.trans hq.busy) he) l
  exact
    { frame := hostFrame_trans h.frame (fire_hostFrame (h.frame.adcBusy.trans ha.busy) he l)
      link := ⟨g.led.trans h.link.led, g.spiEn.trans h.link.spiEn, g.spiBusy.trans h.link.spiBusy,
        g.spiTc.trans h.link.spiTc, g.spiData.trans h.link.spiData, g.sr.trans h.link.sr, g.q.trans h.link.q,
        g.latch.trans h.link.latch⟩
      mmask := f.mmask.trans h.mmask
      obs := f.obs.trans h.obs }

/-- The run of a transaction of one statement: events before the statement, and its end. -/
def OneStatementRun (i : Instr) (s u : State) : Prop :=
  u.seq = .busy (.host i .body) ∧ Waited s u ∨ u.seq = .idle ∧ ∃ w, Waited s w ∧ u = hostStep i .body w

/-- A transaction that calls no `TRANSFER` ends with its one statement (R423, R631). -/
theorem hostStep_body_idle {i : Instr} {led : Byte} (h : ledValue led i = none) (s : State) :
    (hostStep i .body s).seq = .idle := by
  cases i <;> cases h <;> rfl

/-- Whatever comes meanwhile, a transaction that calls no `TRANSFER` runs its one statement, after events only. -/
theorem runJob_oneStatement {i : Instr} {s : State} (hq : SpiIdle s) (ha : AdcIdle s) (hi : ledValue s.led i = none) :
    ∃ w, Waited s w ∧ runJob s.hostFuel (s.startHost i) = hostStep i .body w := by
  have hstart : OneStatementRun i s (s.startHost i) :=
    .inl ⟨rfl, startHost_hostFrame i s, ⟨rfl, rfl, rfl, rfl, rfl, rfl, rfl, rfl⟩, rfl, rfl⟩
  have hevent : ∀ u l (e : Event) p, u.seq = .busy (.host i p) → OneStatementRun i s u → e.enabled u = true →
      OneStatementRun i s (e.fire (u.recast l u.draws)) := by
    rintro u l e p hu (⟨hb, hw⟩ | ⟨hidle, -⟩) he
    · exact .inl ⟨(e.fire_frame _).seq.trans hb, hw.fire hq ha he l⟩
    · cases hu.symm.trans hidle
  have hstmt : ∀ u l p, u.seq = .busy (.host i p) → OneStatementRun i s u →
      OneStatementRun i s (hostStep i p (u.recast l u.draws)) := by
    rintro u l p hu (⟨hb, hw⟩ | ⟨hidle, -⟩)
    · cases hu.symm.trans hb
      exact .inr ⟨hostStep_body_idle hi _, u.recast l u.draws,
        ⟨{ hw.frame with }, { hw.link with }, hw.mmask, hw.obs⟩, rfl⟩
    · cases hu.symm.trans hidle
  obtain ⟨⟨hb, -⟩ | ⟨-, hw⟩, hend⟩ :=
    runJob_host_outcome hevent hstmt s.hostFuel (s := s.startHost i) rfl hstart le_rfl
  · rcases hend with hidle | hheld
    · cases hb.symm.trans hidle
    · cases hb.symm.trans hheld.seq
  · exact hw

/-! ## The reads -/

/-- No read of a register is an LED operation. -/
theorem ledValue_read {i : Instr} {s : State} {b : Byte} (h : readValue s i = some b) : ledValue s.led i = none := by
  cases i <;> cases h <;> rfl

/-- No event changes a register that a read answers with, while both peripherals are idle. -/
theorem Waited.readValue {s u : State} (h : Waited s u) (i : Instr) :
    Safety.readValue u i = Safety.readValue s i := by
  cases i <;> simp only [Safety.readValue, State.tstatByte, h.link.led, h.mmask, h.frame.count, h.frame.tsample,
    h.frame.tbase, h.frame.tstate, h.frame.tdeb]

/-- Settles O21: the one statement responds with the register's byte, which no event changes. -/
theorem readEffect : Obligations.ReadEffect := by
  intro i b s hs hq ha hv
  refine ⟨?_, fun hi => exec_read hs hi hv⟩
  obtain ⟨w, hw, hrun⟩ := runJob_oneStatement hq ha (ledValue_read hv)
  have hb : hostBody i w = .reply b := hostBody_read ((hw.readValue i).trans hv)
  have hstep : hostStep i .body w = (w.observe (.response b)).endJob := by simp only [hostStep, hb]
  exact ⟨(w.observe (.response b)).endJob, by rw [exec_taken hs, hrun, hstep], rfl, hw.mmask,
    congrArg (· ++ [Obs.response b]) hw.obs, { hw.frame with }, { hw.link with }⟩

/-! ## An LED operation, statement by statement -/

/-- The outputs are as they were in `s`: no latch event since (R405). -/
def Unlatched (s u : State) : Prop := u.q = s.q ∧ u.obs = s.obs ∧ u.latch = s.latch

/-- Nothing has been sent since `s`: the serial link has nothing in flight, and the stage is as it was (R403). -/
def Unsent (s u : State) : Prop := u.spiBusy = false ∧ u.spiTc = false ∧ u.sr = s.sr ∧ Unlatched s u

/-- What `TRANSFER(v)`, called since `s`, has done before each of its statements (R403 to R406). -/
def TransferDone (v : Byte) (s u : State) : TransferPos → Prop
  | .t1 w => w = v ∧ Unsent s u
  | .t2 w => w = v ∧ u.led = v ∧ Unsent s u
  | .t3 w => w = v ∧ u.led = v ∧ Unsent s u
  | .t4 => u.led = v ∧ Unlatched s u ∧
      (u.spiBusy = true ∧ u.spiTc = false ∧ u.spiData = v ∧ u.sr = s.sr ∨
        u.spiBusy = false ∧ u.spiTc = true ∧ u.sr = v)
  | .t5 => u.led = v ∧ Unlatched s u ∧ u.spiBusy = false ∧ u.sr = v
  | .t6 => u.led = v ∧ Unlatched s u ∧ u.spiBusy = false ∧ u.spiTc = false ∧ u.sr = v
  | .t7 => u.led = v ∧ u.spiBusy = false ∧ u.spiTc = false ∧ u.sr = v ∧ u.q = v ∧ u.latch = false ∧
      u.obs = s.obs ++ [.latch v]

/-- What a completed LED operation, taken in `s`, leaves in the LED driver (R405, R409). -/
structure LedCompleted (v : Byte) (s t : State) : Prop where
  led : t.led = v
  sr : t.sr = v
  q : t.q = v
  spi : SpiIdle t
  latch : t.latch = false
  obs : t.obs = s.obs ++ [.latch v, .done]

/-- What an LED operation that transfers `v`, taken in `s`, has done when the sequencer is at `q`. -/
def LedDone (v : Byte) (s u : State) : Seq → Prop
  | .busy (.host _ .body) => u.led = s.led ∧ Unsent s u
  | .busy (.host _ (.transfer p)) => TransferDone v s u p
  | .idle => LedCompleted v s u
  | _ => False

/-- What a `TRANSFER` has done is read off the LED driver and the observation. -/
theorem transferDone_congr {v : Byte} {s u t : State} {p : TransferPos} (f : LedFrame u t) (ho : t.obs = u.obs) :
    TransferDone v s t p ↔ TransferDone v s u p := by
  cases p <;> simp only [TransferDone, Unsent, Unlatched, f.led, f.spiBusy, f.spiTc, f.spiData, f.sr, f.q, f.latch, ho]

/-- What an LED operation has done is read off the LED driver and the observation. -/
theorem ledDone_congr {i : Instr} {v : Byte} {s u t : State} {p : HostPos} (f : LedFrame u t) (ho : t.obs = u.obs) :
    LedDone v s t (.busy (.host i p)) ↔ LedDone v s u (.busy (.host i p)) := by
  cases p with
  | body => simp only [LedDone, Unsent, Unlatched, f.led, f.spiBusy, f.spiTc, f.sr, f.q, f.latch, ho]
  | transfer p => exact transferDone_congr f ho

/-- The serial link is busy only at T4, and its completion brings the byte into the stage (R406). -/
theorem transferDone_spiDone {v : Byte} {s u : State} {p : TransferPos} (h : TransferDone v s u p)
    (hb : u.spiBusy = true) : TransferDone v s (spiDoneEvent u) p := by
  have hbusy : ∀ {P : Prop}, u.spiBusy = false → P := fun hf => absurd (hb.symm.trans hf) (by decide)
  cases p with
  | t1 w => obtain ⟨-, hf, -⟩ := h; exact hbusy hf
  | t2 w | t3 w => obtain ⟨-, -, hf, -⟩ := h; exact hbusy hf
  | t5 | t6 => obtain ⟨-, -, hf, -⟩ := h; exact hbusy hf
  | t7 => obtain ⟨-, hf, -⟩ := h; exact hbusy hf
  | t4 =>
    obtain ⟨hl, hu, ⟨-, -, hd, -⟩ | ⟨hf, -⟩⟩ := h
    · exact ⟨hl, hu, .inr ⟨rfl, rfl, (shiftByte_eq _ _).trans hd⟩⟩
    · exact hbusy hf

/-- An event in the middle of a `TRANSFER` is its completion, or does nothing to it (R406). -/
theorem transferDone_fire {v : Byte} {s u : State} {p : TransferPos} {e : Event} (h : TransferDone v s u p)
    (he : e.enabled u = true) (l : List Input) : TransferDone v s (e.fire (u.recast l u.draws)) p := by
  by_cases hd : e = .spiDone
  · subst hd
    exact (transferDone_congr ⟨rfl, rfl, rfl, rfl, rfl, rfl, rfl, rfl⟩ rfl).1 (transferDone_spiDone h he)
  · exact (transferDone_congr (fire_ledFrame hd l) (e.fire_frame _).obs).2 h

/-- Each statement of `TRANSFER` but the last does its part (R403 to R405). -/
theorem transferStep_transferDone {v : Byte} {s u : State} {p p' : TransferPos} (h : TransferDone v s u p)
    (hn : (transferStep p u).1 = some p') : TransferDone v s (transferStep p u).2 p' := by
  cases p with
  | t1 w =>
    cases hn
    obtain ⟨rfl, hu⟩ := h
    exact ⟨rfl, rfl, hu⟩
  | t2 w => cases hn; exact h
  | t3 w =>
    cases hn
    obtain ⟨rfl, hl, hb, ht, hsr, hu⟩ := h
    exact ⟨hl, hu, .inl ⟨rfl, ht, rfl, hsr⟩⟩
  | t4 =>
    obtain ⟨hl, hu, ⟨hb, ht, hd⟩ | ⟨hb, ht, hsr⟩⟩ := h
    · simp only [transferStep, ht] at hn
      cases hn
      exact ⟨hl, hu, .inl ⟨hb, ht, hd⟩⟩
    · simp only [transferStep, ht] at hn
      cases hn
      exact ⟨hl, hu, hb, hsr⟩
  | t5 =>
    cases hn
    obtain ⟨hl, hu, hb, hsr⟩ := h
    exact ⟨hl, hu, hb, rfl, hsr⟩
  | t6 =>
    cases hn
    obtain ⟨hl, ⟨hq, ho, hlat⟩, hb, ht, hsr⟩ := h
    exact ⟨hl, hb, ht, hsr, hsr, rfl, by simp [transferStep, ho, hsr]⟩
  | t7 => cases hn

/-- The last statement of `TRANSFER` completes the operation (R403, R631). -/
theorem transferStep_ledCompleted {v : Byte} {s u : State} {p : TransferPos} (h : TransferDone v s u p)
    (hn : (transferStep p u).1 = none) : LedCompleted v s (((transferStep p u).2.observe .done).endJob) := by
  cases p with
  | t7 =>
    obtain ⟨hl, hb, ht, hsr, hq, hlat, ho⟩ := h
    exact ⟨hl, hsr, hq, ⟨rfl, hb, ht⟩, hlat, by simp [transferStep, ho]⟩
  | t4 =>
    simp only [transferStep] at hn
    split at hn <;> cases hn
  | _ => cases hn

/-- Each statement of an LED operation does its part (R410 to R413, R403). -/
theorem hostStep_ledDone {i : Instr} {v : Byte} {s u : State} {p : HostPos} (hv : ledValue s.led i = some v)
    (h : LedDone v s u (.busy (.host i p))) : LedDone v s (hostStep i p u) (hostStep i p u).seq := by
  cases p with
  | body =>
    obtain ⟨hl, hu⟩ := h
    have hb : hostBody i u = .transfer v := hostBody_ledOperation (hl ▸ hv)
    simp only [hostStep, hb]
    exact ⟨rfl, hu⟩
  | transfer p =>
    have h : TransferDone v s u p := h
    rcases hostStep_transfer i p u with ⟨p', hn, e⟩ | ⟨hn, e⟩ <;> rw [e]
    · exact (transferDone_congr ⟨rfl, rfl, rfl, rfl, rfl, rfl, rfl, rfl⟩ rfl).1 (transferStep_transferDone h hn)
    · exact transferStep_ledCompleted h hn

/-- An LED operation in progress, taken in `s`: what it has done, and what it leaves alone (R403, R408). -/
structure LedRun (v : Byte) (s u : State) : Prop where
  frame : HostFrame s u
  mmask : u.mmask = s.mmask
  done : LedDone v s u u.seq

theorem LedRun.fire {i : Instr} {v : Byte} {s u : State} {e : Event} {p : HostPos} (h : LedRun v s u)
    (ha : AdcIdle s) (hu : u.seq = .busy (.host i p)) (he : e.enabled u = true) (l : List Input) :
    LedRun v s (e.fire (u.recast l u.draws)) := by
  have f := e.fire_frame (u.recast l u.draws)
  refine ⟨hostFrame_trans h.frame (fire_hostFrame (h.frame.adcBusy.trans ha.busy) he l), f.mmask.trans h.mmask, ?_⟩
  have hdone := h.done
  rw [hu] at hdone
  rw [f.seq.trans hu]
  cases p with
  | body =>
    have ⟨_, hb, _⟩ := hdone
    exact (ledDone_congr (i := i) (fire_ledFrame (ne_spiDone hb he) l) f.obs).2 hdone
  | transfer p => exact transferDone_fire hdone he l

/-- No statement of an LED operation writes `MMASK` (R103, R408). -/
theorem hostStep_mmask {i : Instr} {led v : Byte} (hv : ledValue led i = some v) (p : HostPos) (s : State) :
    (hostStep i p s).mmask = s.mmask := by
  cases p with
  | body => cases i <;> cases hv <;> rfl
  | transfer p =>
    have f := transferStep_frame p s
    rcases hostStep_transfer i p s with ⟨p', -, e⟩ | ⟨-, e⟩ <;> rw [e] <;> exact f.mmask

theorem LedRun.statement {i : Instr} {v : Byte} {s u : State} {p : HostPos} (h : LedRun v s u)
    (hv : ledValue s.led i = some v) (hu : u.seq = .busy (.host i p)) (l : List Input) :
    LedRun v s (hostStep i p (u.recast l u.draws)) := by
  have hdone := h.done
  rw [hu] at hdone
  have hlink : LedFrame u (u.recast l u.draws) := ⟨rfl, rfl, rfl, rfl, rfl, rfl, rfl, rfl⟩
  exact ⟨hostFrame_trans h.frame (hostStep_hostFrame i p u l), (hostStep_mmask hv p _).trans h.mmask,
    hostStep_ledDone hv ((ledDone_congr hlink rfl).2 hdone)⟩

/-- Whatever comes meanwhile, an LED operation completes or is held at T4 (R403, R407). -/
structure LedOutcome (i : Instr) (v : Byte) (s t : State) : Prop where
  frame : HostFrame s t
  mmask : t.mmask = s.mmask
  led : t.led = v
  ended : t.seq = .idle ∧ LedCompleted v s t ∨ HeldAtT4 i t ∧ t.sr = s.sr ∧ Unlatched s t

theorem runJob_ledOutcome {i : Instr} {v : Byte} {s : State} (hq : SpiIdle s) (ha : AdcIdle s)
    (hv : ledValue s.led i = some v) : LedOutcome i v s (runJob s.hostFuel (s.startHost i)) := by
  have hstart : LedRun v s (s.startHost i) :=
    ⟨startHost_hostFrame i s, rfl, rfl, hq.busy, hq.tc, rfl, rfl, rfl, rfl⟩
  obtain ⟨⟨hframe, hmmask, hdone⟩, hend⟩ := runJob_host_outcome (i := i) (P := LedRun v s)
    (fun u l e p hu h he => h.fire ha hu he l) (fun u l p hu h => h.statement hv hu l) s.hostFuel
    (s := s.startHost i) rfl hstart le_rfl
  rcases hend with hidle | hheld
  · rw [hidle] at hdone
    exact ⟨hframe, hmmask, hdone.led, .inl ⟨hidle, hdone⟩⟩
  · rw [hheld.seq] at hdone
    obtain ⟨hl, hu, ⟨-, -, -, hsr⟩ | ⟨-, ht, -⟩⟩ := hdone
    · exact ⟨hframe, hmmask, hl, .inr ⟨hheld, hsr, hu⟩⟩
    · exact absurd (hheld.tc.symm.trans ht) (by decide)

/-- Settles O14: the operation's outcome, and the step of a state held for ever. -/
theorem ledWriteCompletesOrHangs : Obligations.LedWriteCompletesOrHangs := by
  intro i v s hs hq ha hv
  obtain ⟨hframe, hmmask, hled, ⟨hidle, hc⟩ | ⟨hheld, -, hq', hobs, hlatch⟩⟩ := runJob_ledOutcome hq ha hv
  · exact ⟨_, exec_taken hs, hframe, hmmask, by simp [hc.latch, State.isBusy, hidle], hled,
      .inl ⟨hidle, hc.sr, hc.q, hc.spi, hc.obs⟩⟩
  · have hstep := step_busy (hframe.cfg ▸ hs.legal) (by simp [hframe.phase, hs.run]) hheld.seq
    rw [hheld.fixed] at hstep
    exact ⟨_, exec_taken hs, hframe, hmmask, by simp [hlatch, State.isBusy_of_seq hheld.seq], hled,
      .inr ⟨hheld.seq, hheld.tc, hq', hobs, hstep⟩⟩

/-! ## Who writes the outputs and the stage -/

/-- What a statement of the job `j` can write in `Q` and `SR`, from `s` to `t` (R404, R405). -/
structure StatementOutputs (j : Job) (s t : State) : Prop where
  sr : t.sr = s.sr
  q : t.q = s.q ∨ latching j ∧ t.q = s.sr ∧ t.obs = s.obs ++ [.latch t.q]

theorem StatementOutputs.of_eq {j : Job} {s t : State} (hsr : t.sr = s.sr) (hq : t.q = s.q) : StatementOutputs j s t :=
  ⟨hsr, .inl hq⟩

/-- A job at a statement of `TRANSFER` writes what the procedure does: `Q` at T6, with its latch event (R405). -/
theorem transferStep_outputs {j : Job} {p : TransferPos} (s : State) (hj : p = .t6 → latching j) :
    StatementOutputs j s (transferStep p s).2 := by
  cases p with
  | t6 => exact ⟨rfl, .inr ⟨hj rfl, rfl, rfl⟩⟩
  | _ => exact .of_eq rfl rfl

/-- Where the sequencer goes next is no output. -/
theorem StatementOutputs.goto {j : Job} {s t : State} (h : StatementOutputs j s t) (j' : Job) :
    StatementOutputs j s (t.goto j') := ⟨h.sr, h.q⟩

theorem hostStep_outputs (i : Instr) (p : HostPos) (s : State) : StatementOutputs (.host i p) s (hostStep i p s) := by
  cases p with
  | body => simp only [hostStep]; split <;> exact .of_eq rfl rfl
  | transfer p =>
    have w := transferStep_outputs (j := .host i (.transfer p)) s (congrArg HostPos.transfer)
    rcases hostStep_transfer i p s with ⟨p', -, e⟩ | ⟨hn, e⟩ <;> rw [e]
    · exact w.goto _
    · cases p with
      | t6 => cases hn
      | _ => exact .of_eq w.sr rfl

theorem motionStep_outputs (p : MotionPos) (s : State) : StatementOutputs (.motion p) s (motionStep p s) := by
  cases p with
  | transfer p =>
    have w := transferStep_outputs (j := .motion (.transfer p)) s (congrArg MotionPos.transfer)
    rcases motionStep_transfer p s with ⟨p', -, e⟩ | ⟨-, e⟩ <;> exact e ▸ w.goto _
  | _ => apply StatementOutputs.of_eq <;> simp [motionStep]

theorem tickStep_outputs (p : TickPos) (s : State) : StatementOutputs (.tick p) s (tickStep p s) := by
  cases p with
  | transfer p =>
    have w := transferStep_outputs (j := .tick (.transfer p)) s (congrArg TickPos.transfer)
    rcases tickStep_transfer p s with ⟨p', -, e⟩ | ⟨-, e⟩ <;> exact e ▸ w.goto _
  | k1 | k3 | k5 => simp only [tickStep]; split <;> exact .of_eq rfl rfl
  | _ => apply StatementOutputs.of_eq <;> simp [tickStep]

theorem scanStep_outputs (p : ScanPos) (s : State) : StatementOutputs (.scan p) s (scanStep p s) := by
  cases p with
  | transfer p =>
    have w := transferStep_outputs (j := .scan (.transfer p)) s (congrArg ScanPos.transfer)
    rcases scanStep_transfer p s with ⟨p', -, e⟩ | ⟨-, e⟩ <;> exact e ▸ w.goto _
  | filter p =>
    have f := filterStep_frame p s
    rcases scanStep_filter p s with ⟨p', -, e⟩ | ⟨-, e⟩ <;> exact e ▸ .of_eq f.sr f.q
  | b1 | b2 | a1 | a2 | a4 => simp only [scanStep]; split <;> exact .of_eq rfl rfl
  | _ => apply StatementOutputs.of_eq <;> simp [scanStep]

/-- `CAL_JOB` calls no `TRANSFER` (R511). -/
theorem calStep_outputs (p : CalPos) (s : State) : StatementOutputs (.cal p) s (calStep p s) := by
  cases p with
  | filter p =>
    have f := filterStep_frame p s
    rcases calStep_filter p s with ⟨p', -, e⟩ | ⟨-, e⟩ <;> exact e ▸ .of_eq f.sr f.q
  | l2Test => simp only [calStep]; split <;> exact .of_eq rfl rfl
  | _ => exact .of_eq rfl rfl

theorem jobStep_outputs (j : Job) (s : State) : StatementOutputs j s (jobStep j s) := by
  cases j with
  | host i p => exact hostStep_outputs i p s
  | motion p => exact motionStep_outputs p s
  | tick p => exact tickStep_outputs p s
  | scan p => exact scanStep_outputs p s
  | cal p => exact calStep_outputs p s

/-- What transaction `i`, taken in `s`, can have written in `Q` and `SR` when it has come to `t` (R404, R405). -/
structure TransactionOutputs (i : Instr) (s t : State) : Prop where
  q : t.q = s.q ∨ ledValue s.led i = some t.q ∧ t.obs = s.obs ++ [.latch t.q, .done]
  sr : t.sr = s.sr ∨ ledValue s.led i = some t.sr

theorem runJob_transactionOutputs (i : Instr) {s : State} (hq : SpiIdle s) (ha : AdcIdle s) :
    TransactionOutputs i s (runJob s.hostFuel (s.startHost i)) := by
  cases hv : ledValue s.led i with
  | none =>
    obtain ⟨w, hw, hrun⟩ := runJob_oneStatement hq ha hv
    rw [hrun]
    have h := hostStep_outputs i .body w
    exact ⟨.inl ((h.q.resolve_right fun hl => by cases hl.1).trans hw.link.q), .inl (h.sr.trans hw.link.sr)⟩
  | some v =>
    obtain ⟨-, -, -, ⟨-, hc⟩ | ⟨-, hsr, hq', -⟩⟩ := runJob_ledOutcome hq ha hv
    · exact ⟨.inr ⟨hc.q ▸ hv, hc.q ▸ hc.obs⟩, .inr (hc.sr ▸ hv)⟩
    · exact ⟨.inl hq', .inl hsr⟩

/-- What a step can write in `Q` and `SR`. -/
inductive StepOutputs (s t : State) : Prop where
  /-- `SPI_DONE` writes `SR` (R406). -/
  | completion (s' : State) (hb : s.spiBusy = true) (hn : s.nextEvent = some (.spiDone, s')) (hsr : t.sr = s.spiData)
      (hq : t.q = s.q)
  /-- A statement of the job in progress. -/
  | statement (j : Job) (hj : s.seq = .busy j) (w : StatementOutputs j s t)
  /-- A host transaction, run as one step (log entry 5). -/
  | transaction (i : Instr) (l : List Input) (n : Nat) (hpl : plan s = .execute i (s.recast l n))
      (w : TransactionOutputs i (s.recast l n) t)
  /-- Every other step writes neither. -/
  | nothing (hsr : t.sr = s.sr) (hq : t.q = s.q)

theorem step_outputs {s t : State} (hinv : Inv s) (h : step s = .next t) : StepOutputs s t := by
  obtain ⟨-, hcase⟩ := step_cases h
  cases hcase with
  | event e rest he hrun hn ht =>
    subst ht
    by_cases hd : e = .spiDone
    · subst hd
      exact .completion _ he hn (shiftByte_eq _ _) rfl
    · have f := e.fire_frame { s with inputs := rest }
      obtain ⟨-, -, hsr⟩ := Event.fire_spi { s with inputs := rest } hd
      exact .nothing hsr f.q
  | reset hp ht => subst ht; exact .nothing s.passMove_sr s.passMove_q
  | statement j hp hj hn ht =>
    obtain ⟨l, hl⟩ := s.passMove_recast
    have w := jobStep_outputs j (s.recast l s.draws)
    rw [ht, hl]
    exact .statement j hj ⟨w.sr, w.q⟩
  | service src l n hc ht => subst ht; exact .nothing rfl rfl
  | sleep hc ht => subst ht; exact .nothing s.passMove_sr s.passMove_q
  | nothing hp hb l n ht => subst ht; exact .nothing rfl rfl
  | transaction i l n hc hpl ht =>
    have hquiet := inv_quiet hinv (State.canTake_iff.1 hc).2
    have hq : SpiIdle (s.recast l n) := ⟨hquiet.spi.en, hquiet.spi.busy, hquiet.spi.tc⟩
    have ha : AdcIdle (s.recast l n) := ⟨hquiet.adc.busy, hquiet.adc.rdy⟩
    exact .transaction i l n hpl (ht ▸ runJob_transactionOutputs i hq ha)

/-- Settles O56: the invariant holds `LATCH` at 0, and of a step's writes those to `Q` and to `SR`. -/
theorem outputsWrittenOnlyByTransfer : Obligations.OutputsWrittenOnlyByTransfer := by
  intro s t hinv hs
  refine ⟨(everyStepKeepsInvariant s t hinv hs).latch.trans hinv.latch.symm, fun hne => ?_, fun hne => ?_⟩
  · cases step_outputs hinv hs with
    | completion s' hb hn hsr hq => exact absurd hq hne
    | statement j hj w => exact .inl ⟨j, hj, w.q.resolve_left hne⟩
    | transaction i l n hpl w => exact .inr ⟨i, _, hpl, w.q.resolve_left hne⟩
    | nothing hsr hq => exact absurd hq hne
  · cases step_outputs hinv hs with
    | completion s' hb hn hsr hq => exact .inl ⟨hb, hsr, s', hn⟩
    | statement j hj w => exact absurd w.sr hne
    | transaction i l n hpl w => exact .inr ⟨i, _, hpl, w.sr.resolve_left hne⟩
    | nothing hsr hq => exact absurd hsr hne

end Sys2Proof.Machine
end

section
/-! Proof of the statement on the mask writes (41_strip_policy.md R420, R421, R423): what their one statement leaves, and
that events before it change neither `MMASK` nor the LED driver. -/

namespace Sys2Proof.Machine

open Sys2Proof.Safety

/-- A mask write's pseudocode is `MMASK <- m` with R420's or R421's value. -/
theorem hostBody_maskWrite {i : Instr} {s : State} {v : Byte} (h : maskValue s.mmask i = some v) :
    hostBody i s = .mask v := by
  cases i <;> cases h <;> rfl

/-- A mask write's one statement leaves the value in `MMASK` and completes the job (R420, R421, R631). -/
theorem hostStep_maskWrite {i : Instr} {s : State} {v : Byte} (h : maskValue s.mmask i = some v) :
    hostStep i .body s = ({ s with mmask := v }.observe .done).endJob := by
  simp only [hostStep, hostBody_maskWrite h]

/-- No mask write is an LED operation: it calls no `TRANSFER` (R423). -/
theorem ledValue_maskWrite {i : Instr} {mmask led v : Byte} (h : maskValue mmask i = some v) :
    ledValue led i = none := by
  cases i <;> cases h <;> rfl

/-- A mask write with nothing coming meanwhile writes `MMASK` and completes (R420, R421, R631). -/
theorem exec_maskWrite {i : Instr} {s : State} {v : Byte} (hs : Ready s) (hi : Patient s.inputs)
    (hv : maskValue s.mmask i = some v) : exec i s = .next (answered .done { s with mmask := v }) := by
  have hstep : jobStep (.host i .body) (s.startHost i) = answered .done { s with mmask := v } :=
    hostStep_maskWrite (s := s.startHost i) hv
  rw [exec_taken hs, State.hostFuel, runJob_statement (s := s.startHost i) rfl hi rfl, hstep, runJob_done rfl]

/-- Settles O19: the one statement writes `MMASK`, which no event changes, and nothing of the LED driver. -/
theorem maskWriteEffect : Obligations.MaskWriteEffect := by
  intro i v s hs hq ha hv
  refine ⟨?_, fun hi => exec_maskWrite hs hi hv⟩
  obtain ⟨w, hw, hrun⟩ := runJob_oneStatement hq ha (ledValue_maskWrite hv)
  have hstep := hostStep_maskWrite (s := w) (hw.mmask.symm ▸ hv)
  exact ⟨({ w with mmask := v }.observe .done).endJob, by rw [exec_taken hs, hrun, hstep], rfl, rfl,
    congrArg (· ++ [Obs.done]) hw.obs, { hw.frame with }, { hw.link with }⟩

end Sys2Proof.Machine
end

section
/-! Proofs of the statements on the motion source (42_motion.md R443 to R447): a job's `TRANSFER` as a run of steps up to its
hold at T4 and from its completion on, and `MOTION_SVC` around it, with and without edges of the pin at the hold. -/

namespace Sys2Proof.Machine

open Sys2Proof.Safety

/-! ## Runs of a job -/

/-- A run that begins with a statement of the job in progress. -/
theorem leads_statement {s t : State} {j : Job} (h : Running j s) (hi : Patient s.inputs) (hr : j.holds s = false)
    (h' : Leads (jobStep j s) t) : Leads s t :=
  Leads.head (step_statement h.legal (by simp [h.run]) h.at_job hi hr) h'

/-- A run that begins at an `await` with the event that waits for it. -/
theorem leads_event {s t : State} {j : Job} {e : Event} {rest : List Input} (h : Running j s)
    (hi : s.inputs = lazily e :: rest) (hr : j.holds s = true) (he : e.enabled s = true)
    (h' : Leads (e.fire (s.withInputs rest)) t) : Leads s t :=
  Leads.head (step_event h.legal (by simp [h.run]) h.at_job hi hr he) h'

/-- An event that waits for rest leaves the moving sequencer alone (log entry 2). -/
theorem patient_inputs {s : State} {e : Event} {rest : List Input} (hi : s.inputs = lazily e :: rest) :
    Patient s.inputs := by
  simp [hi, Patient, lazily]

/-! ## A `TRANSFER` inside a job -/

/-- The job that stands at `pos p` while it is at statement `p` of a `TRANSFER`, and goes on at `next` when the transfer has
returned (R23, R403). -/
structure RunsTransfer (pos : TransferPos → Job) (next : Job) : Prop where
  step : ∀ p s, jobStep (pos p) s = (transferStep p s).2.goto (((transferStep p s).1.map pos).getD next)
  holds : ∀ p s, (pos p).holds s = (decide (p = .t4) && !s.spiTc)

/-- The block with its job held at T4 of a `TRANSFER(v)`, before the completion (R403, R407). -/
def sending (pos : TransferPos → Job) (v : Byte) (s : State) : State :=
  { s with seq := .busy (pos .t4), led := v, spiEn := true, spiData := v, spiBusy := true }

section
variable {pos : TransferPos → Job} {next : Job}

/-- A run that begins with a statement of a `TRANSFER`, T4's only once the completion has come (R403, R407). -/
theorem RunsTransfer.leads_statement (hp : RunsTransfer pos next) {p : TransferPos} {s t : State}
    (h : Running (pos p) s) (hi : Patient s.inputs) (htc : p = .t4 → s.spiTc = true)
    (h' : Leads ((transferStep p s).2.goto (((transferStep p s).1.map pos).getD next)) t) : Leads s t := by
  have hgo : (pos p).holds s = false := by simpa [hp.holds] using htc
  exact Machine.leads_statement h hi hgo (hp.step p s ▸ h')

/-- With no event before its hold a `TRANSFER` comes to T4 in three statements (R403). -/
theorem RunsTransfer.leads_sending (hp : RunsTransfer pos next) {v : Byte} {s : State} (hs : Running (pos (.t1 v)) s)
    (hi : Patient s.inputs) : Leads s (sending pos v s) := by
  refine hp.leads_statement hs hi nofun ?_
  refine hp.leads_statement (p := .t2 v) ⟨hs.legal, hs.run, rfl⟩ hi nofun ?_
  refine hp.leads_statement (p := .t3 v) ⟨hs.legal, hs.run, rfl⟩ hi nofun ?_
  dsimp only [transferStep, Option.map_some, Option.getD_some]
  exact Leads.refl _

/-- A `TRANSFER` whose completion comes at its hold, with no event after it, returns with its value transferred (R403, R405,
R406). -/
theorem RunsTransfer.leads_transferred (hp : RunsTransfer pos next) {v : Byte} {s : State} {rest : List Input}
    (hs : Running (pos .t4) (sending pos v s)) (htc : s.spiTc = false) (hi : s.inputs = lazily .spiDone :: rest)
    (hr : Patient rest) : Leads (sending pos v s) (((transferred v s).goto next).withInputs rest) := by
  have hheld : (pos .t4).holds (sending pos v s) = true := by simp [hp.holds, sending, htc]
  refine leads_event hs hi hheld rfl ?_
  rw [Event.fire, spiDoneEvent_eq]
  refine hp.leads_statement (p := .t4) ⟨hs.legal, hs.run, rfl⟩ hr (fun _ => rfl) ?_
  refine hp.leads_statement (p := .t5) ⟨hs.legal, hs.run, rfl⟩ hr nofun ?_
  refine hp.leads_statement (p := .t6) ⟨hs.legal, hs.run, rfl⟩ hr nofun ?_
  refine hp.leads_statement (p := .t7) ⟨hs.legal, hs.run, rfl⟩ hr nofun ?_
  dsimp only [transferStep, Option.map_some, Option.map_none, Option.getD_some, Option.getD_none]
  exact Leads.refl _

/-- A change of the pin while a job is held at T4 happens at once and leaves it held (R610). -/
theorem RunsTransfer.leads_pin (hp : RunsTransfer pos next) {v : Byte} {s : State} {l : Bool} {rest : List Input}
    (hs : Running (pos .t4) (sending pos v s)) (htc : s.spiTc = false) (hi : s.inputs = lazily (.pin l) :: rest) :
    Leads (sending pos v s)
      (sending pos v { s with motionN := l, motionPend := s.motionPend || (s.motionN && !l), inputs := rest }) := by
  have hheld : (pos .t4).holds (sending pos v s) = true := by simp [hp.holds, sending, htc]
  have hrun : s.phase = .run := hs.run
  refine leads_event hs hi hheld rfl ?_
  simpa [Event.fire, pinEvent_eq, sending, State.withInputs, hrun] using Leads.refl _

end

/-! ## `MOTION_SVC` around its transfer -/

/-- M0 clears the flag with `ENTRY` and keeps it with `EXIT` (R614). -/
theorem clearAtEntry_motion (s : State) : s.clearAtEntry .motion =
    { s with motionPend := s.motionPend && decide (s.cfg.flagClearAt = .exit) } := by
  cases h : s.cfg.flagClearAt <;> simp [State.clearAtEntry, State.clearPending, h]

/-- M3 keeps the flag with `ENTRY` and clears it with `EXIT` (R614). -/
theorem clearAtExit_motion (s : State) : s.clearAtExit .motion =
    { s with motionPend := s.motionPend && decide (s.cfg.flagClearAt = .entry) } := by
  cases h : s.cfg.flagClearAt <;> simp [State.clearAtExit, State.clearPending, h]

/-- `MOTION_SVC` runs its transfer between M1 and M2 (R443). -/
theorem motion_runsTransfer : RunsTransfer (fun p => .motion (.transfer p)) (.motion .m2) where
  step p s := by
    rcases motionStep_transfer p s with ⟨p', hn, h⟩ | ⟨hn, h⟩ <;> simp [jobStep, h, hn]
  holds p s := by cases p <;> rfl

/-- M0 and M1 lead the service into the transfer of `LED | MMASK`, and to its hold (R443, R444). -/
theorem motion_leads_sending {s : State} (hs : Running (.motion .m0) s) (hi : Patient s.inputs) :
    Leads s (sending (fun p => .motion (.transfer p)) (s.led ||| s.mmask)
      { s with motionPend := s.motionPend && decide (s.cfg.flagClearAt = .exit) }) := by
  refine leads_statement hs hi rfl ?_
  rw [jobStep, motionStep, clearAtEntry_motion]
  refine leads_statement (j := .motion .m1) ⟨hs.legal, hs.run, rfl⟩ hi rfl ?_
  exact motion_runsTransfer.leads_sending ⟨hs.legal, hs.run, rfl⟩ hi

/-- From its completion on the service sets `COUNT`, clears its flag at M3 if it is to, and completes (R443, R445, R614). -/
theorem motion_leads_released {v : Byte} {s : State} {rest : List Input}
    (hs : Running (.motion (.transfer .t4)) (sending (fun p => .motion (.transfer p)) v s)) (htc : s.spiTc = false)
    (hi : s.inputs = lazily .spiDone :: rest) (hr : Patient rest) :
    Leads (sending (fun p => .motion (.transfer p)) v s)
      ((released { transferred v s with
        count := BitVec.ofNat 8 s.cfg.timeoutSec,
        motionPend := s.motionPend && decide (s.cfg.flagClearAt = .entry) }).withInputs rest) := by
  refine Leads.trans (motion_runsTransfer.leads_transferred hs htc hi hr) ?_
  refine leads_statement (j := .motion .m2) ⟨hs.legal, hs.run, rfl⟩ hr rfl ?_
  refine leads_statement (j := .motion .m3) ⟨hs.legal, hs.run, rfl⟩ hr rfl ?_
  rw [jobStep, motionStep, clearAtExit_motion]
  refine leads_statement (j := .motion .m4) ⟨hs.legal, hs.run, rfl⟩ hr rfl ?_
  exact Leads.refl _

/-- Setting the bits of a mask leaves the others (R445). -/
theorem or_and_not (a m : Byte) : (a ||| m) &&& ~~~m = a &&& ~~~m := by
  rw [BitVec.and_or_distrib_right, BitVec.and_not_self]
  exact BitVec.or_zero

/-- `TIMEOUT_SEC` in `COUNT` is not 0, so that the timeout view is not IDLE (R11, R144, R446). -/
theorem timeoutView_ne_idle {s : State} (hl : s.cfg.legal = true) (hc : s.count = BitVec.ofNat 8 s.cfg.timeoutSec) :
    timeoutView s ≠ .idle := by
  obtain ⟨⟨hpos, hle⟩, -⟩ := Config.legal_iff.1 hl
  have hne : s.count ≠ 0#8 := by rw [hc]; bv_omega
  rw [timeoutView, if_neg hne]
  split <;> nofun

/-- Settles O27: the flag is cleared at M0 or at M3. -/
theorem motionServiceEffect : Obligations.MotionServiceEffect := by
  intro s rest hs hq hi hr
  refine ⟨_, rfl, ?_, or_and_not s.led s.mmask, timeoutView_ne_idle hs.legal rfl⟩
  have hend := Leads.trans (motion_leads_sending hs (patient_inputs hi))
    (motion_leads_released ⟨hs.legal, hs.run, rfl⟩ hq.tc hi hr)
  have hflag : (s.motionPend && decide (s.cfg.flagClearAt = .exit) && decide (s.cfg.flagClearAt = .entry)) = false := by
    cases s.cfg.flagClearAt <;> simp
  rwa [hflag] at hend

/-- Settles O28: the edge at the hold sets the flag after M0 and before M3. -/
theorem edgeDuringMotionService : Obligations.EdgeDuringMotionService := by
  intro s rest hs hq hi hr
  have hhold := motion_leads_sending hs (patient_inputs hi)
  have hrise := Leads.trans hhold (motion_runsTransfer.leads_pin ⟨hs.legal, hs.run, rfl⟩ hq.tc hi)
  have hfall := Leads.trans hrise (motion_runsTransfer.leads_pin ⟨hs.legal, hs.run, rfl⟩ hq.tc rfl)
  have hend := Leads.trans hfall (motion_leads_released ⟨hs.legal, hs.run, rfl⟩ hq.tc rfl hr)
  simp only [Bool.not_false, Bool.and_true, Bool.or_true, Bool.true_and] at hend
  exact hend

end Sys2Proof.Machine
end

section
/-! Proofs of the statements on the timeout scheduler's services (43_timeout.md R463 to R468, R472): `TICK_SVC` with and
without expiry, and the services that a sequencer at rest takes, one after the other. -/

namespace Sys2Proof.Machine

open Sys2Proof.Safety

/-! ## The statements of `TICK_SVC` that branch -/

/-- K0 clears the flag with `ENTRY` and keeps it with `EXIT` (R614). -/
theorem clearAtEntry_tick (s : State) : s.clearAtEntry .tick =
    { s with tickPend := s.tickPend && decide (s.cfg.flagClearAt = .exit) } := by
  cases h : s.cfg.flagClearAt <;> simp [State.clearAtEntry, State.clearPending, h]

/-- K7 keeps the flag with `ENTRY` and clears it with `EXIT` (R614). -/
theorem clearAtExit_tick (s : State) : s.clearAtExit .tick =
    { s with tickPend := s.tickPend && decide (s.cfg.flagClearAt = .entry) } := by
  cases h : s.cfg.flagClearAt <;> simp [State.clearAtExit, State.clearPending, h]

theorem tickStep_k1 (s : State) : tickStep .k1 s = s.goto (.tick (if s.motionN then .k3 else .k2)) := by
  rw [tickStep, ← apply_ite (fun p => s.goto (.tick p))]

theorem tickStep_k3 (s : State) : tickStep .k3 s = s.goto (.tick (if 0 < s.count.toNat then .k4 else .k7)) := by
  rw [tickStep, ← apply_ite (fun p => s.goto (.tick p))]

theorem tickStep_k5 (s : State) : tickStep .k5 s = s.goto (.tick (if s.count = 0#8 then .k6 else .k7)) := by
  rw [tickStep, ← apply_ite (fun p => s.goto (.tick p))]

/-- `TICK_SVC` runs its transfer between K6 and K7 (R463). -/
theorem tick_runsTransfer : RunsTransfer (fun p => .tick (.transfer p)) (.tick .k7) where
  step p s := by
    rcases tickStep_transfer p s with ⟨p', hn, h⟩ | ⟨hn, h⟩ <;> simp [jobStep, h, hn]
  holds p s := by cases p <;> rfl

/-! ## `TICK_SVC` as a run -/

/-- The tick service past K1, which read the sensor, and past K0, which cleared the flag if it was to (R463, R614). -/
def sensed (s : State) : State :=
  { s with
    tickPend := s.tickPend && decide (s.cfg.flagClearAt = .exit), seq := .busy (.tick (if s.motionN then .k3 else .k2)) }

/-- K0 and K1 with no event between them (R462, R463). -/
theorem tick_leads_sensed {s : State} (hs : Running (.tick .k0) s) (hi : Patient s.inputs) : Leads s (sensed s) := by
  refine leads_statement hs hi rfl ?_
  rw [jobStep, tickStep, clearAtEntry_tick]
  refine leads_statement (j := .tick .k1) ⟨hs.legal, hs.run, rfl⟩ hi rfl ?_
  rw [jobStep, tickStep_k1]
  exact Leads.refl _

/-- With the sensor inactive and `COUNT` above 0, K3 to K5 count down, and go to the transfer if `COUNT` is then 0 (R463). -/
theorem tick_leads_counted {s : State} (hs : Running (.tick .k3) s) (hi : Patient s.inputs) (hc : 0 < s.count.toNat) :
    Leads s ({ s with count := s.count - 1#8 }.goto (.tick (if s.count - 1#8 = 0#8 then .k6 else .k7))) := by
  refine leads_statement hs hi rfl ?_
  rw [jobStep, tickStep_k3, if_pos hc]
  refine leads_statement (j := .tick .k4) ⟨hs.legal, hs.run, rfl⟩ hi rfl ?_
  refine leads_statement (j := .tick .k5) ⟨hs.legal, hs.run, rfl⟩ hi rfl ?_
  rw [jobStep, tickStep_k5]
  exact Leads.refl _

/-- K7 clears the flag if it is to, and K8 completes the service (R463, R614). -/
theorem tick_leads_released {s : State} (hs : Running (.tick .k7) s) (hi : Patient s.inputs)
    (hf : s.cfg.flagClearAt = .entry → s.tickPend = false) : Leads s (released { s with tickPend := false }) := by
  have hflag : (s.tickPend && decide (s.cfg.flagClearAt = .entry)) = false := by
    cases h : s.cfg.flagClearAt <;> simp [hf, h]
  refine leads_statement hs hi rfl ?_
  rw [jobStep, tickStep, clearAtExit_tick, hflag]
  exact leads_statement (j := .tick .k8) ⟨hs.legal, hs.run, rfl⟩ hi rfl (Leads.refl _)

/-- After K0 the flag is set only if K7 is to clear it (R614). -/
theorem sensed_tickPend (s : State) (h : s.cfg.flagClearAt = .entry) : (sensed s).tickPend = false := by
  simp [sensed, h]

/-- With the sensor active K2 sets `COUNT`, whatever it was (R463, R464). -/
theorem tick_leads_rearmed {s : State} (hs : Running (.tick .k0) s) (hi : Patient s.inputs) (hm : s.motionN = false) :
    Leads s (released { s with tickPend := false, count := BitVec.ofNat 8 s.cfg.timeoutSec }) := by
  refine Leads.trans (tick_leads_sensed hs hi) ?_
  refine leads_statement (s := sensed s) (j := .tick .k2) ⟨hs.legal, hs.run, by simp [sensed, hm]⟩ hi rfl ?_
  exact tick_leads_released ⟨hs.legal, hs.run, rfl⟩ hi (sensed_tickPend s)

/-- With the sensor inactive and `COUNT` not 1 the service counts down to a value above 0, or leaves 0 (R465, R467). -/
theorem tick_leads_decremented {s : State} (hs : Running (.tick .k0) s) (hi : Patient s.inputs) (hm : s.motionN = true)
    (hc : s.count ≠ 1#8) :
    Leads s (released { s with tickPend := false, count := BitVec.ofNat 8 (s.count.toNat - 1) }) := by
  have hk3 : Running (.tick .k3) (sensed s) := ⟨hs.legal, hs.run, by simp [sensed, hm]⟩
  refine Leads.trans (tick_leads_sensed hs hi) ?_
  by_cases hz : s.count = 0#8
  · have hsame : BitVec.ofNat 8 (s.count.toNat - 1) = s.count := by simp [hz]
    rw [hsame]
    refine leads_statement hk3 hi rfl ?_
    rw [jobStep, tickStep_k3, if_neg (by simp [sensed, hz])]
    exact tick_leads_released ⟨hs.legal, hs.run, rfl⟩ hi (sensed_tickPend s)
  · have hless : BitVec.ofNat 8 (s.count.toNat - 1) = s.count - 1#8 := by bv_omega
    have hne : s.count - 1#8 ≠ 0#8 := by bv_omega
    rw [hless]
    refine Leads.trans (tick_leads_counted hk3 hi (show 0 < s.count.toNat by bv_omega)) ?_
    rw [if_neg (show (sensed s).count - 1#8 ≠ 0#8 from hne)]
    exact tick_leads_released ⟨hs.legal, hs.run, rfl⟩ hi (sensed_tickPend s)

/-- With the sensor inactive and `COUNT` 1 the service comes to its transfer and, with the completion coming at its hold, goes
on from it to its end (R463, R466). -/
theorem tick_leads_expired {s : State} {rest : List Input} (hs : Running (.tick .k0) s) (hq : SpiIdle s)
    (hm : s.motionN = true) (hc : s.count = 1#8) (hi : s.inputs = lazily .spiDone :: rest) (hr : Patient rest) :
    Leads s ((released { transferred (s.led &&& ~~~s.mmask) s with count := 0#8, tickPend := false }).withInputs rest) := by
  have hpat := patient_inputs hi
  refine Leads.trans (tick_leads_sensed hs hpat) ?_
  refine Leads.trans (tick_leads_counted ⟨hs.legal, hs.run, by simp [sensed, hm]⟩ hpat
    (show 0 < s.count.toNat by simp [hc])) ?_
  have hzero : (sensed s).count - 1#8 = 0#8 := by simp [sensed, hc]
  rw [if_pos hzero, hzero]
  refine leads_statement (j := .tick .k6) ⟨hs.legal, hs.run, rfl⟩ hpat rfl ?_
  refine Leads.trans (tick_runsTransfer.leads_sending (v := s.led &&& ~~~s.mmask) ⟨hs.legal, hs.run, rfl⟩ hpat) ?_
  refine Leads.trans (tick_runsTransfer.leads_transferred ⟨hs.legal, hs.run, rfl⟩ hq.tc hi hr) ?_
  exact tick_leads_released ⟨hs.legal, hs.run, rfl⟩ hr (sensed_tickPend s)

/-- `TIMEOUT_SEC` fits in `COUNT` and is not 0 (R11). -/
theorem timeout_toNat {c : Config} (h : c.legal = true) :
    (BitVec.ofNat 8 c.timeoutSec).toNat = c.timeoutSec ∧ 0 < c.timeoutSec := by
  obtain ⟨⟨hpos, hle⟩, -⟩ := Config.legal_iff.1 h
  exact ⟨by rw [BitVec.toNat_ofNat]; omega, hpos⟩

/-- With `TIMEOUT_SEC` in `COUNT` and the sensor active the timeout view is HELD (R144, R464). -/
theorem timeoutView_held {s : State} (hl : s.cfg.legal = true) (hc : s.count = BitVec.ofNat 8 s.cfg.timeoutSec)
    (hm : s.motionN = false) : timeoutView s = .held := by
  have hne := timeoutView_ne_idle hl hc
  revert hne
  rw [timeoutView]
  split
  · exact fun h => absurd rfl h
  · simp [hm]

/-- Settles O30: the sensor active, or inactive. -/
theorem tickServiceCounts : Obligations.TickServiceCounts := by
  intro s hs hi hne
  have hactive : s.motionN = false → tickCount s.cfg.timeoutSec s.count.toNat s.motionN = s.cfg.timeoutSec :=
    fun hm => by simp [tickCount, hm]
  have hinactive : s.motionN = true → tickCount s.cfg.timeoutSec s.count.toNat s.motionN = s.count.toNat - 1 :=
    fun hm => by simp [tickCount, hm]
  refine ⟨_, rfl, ?_, fun hm => ?_, fun hm => ?_⟩
  · rcases Bool.eq_false_or_eq_true s.motionN with hm | hm
    · rw [hinactive hm]
      exact tick_leads_decremented hs hi hm fun hc => hne ⟨hm, hc⟩
    · rw [hactive hm]
      exact tick_leads_rearmed hs hi hm
  · rw [hactive hm]
    exact ⟨(timeout_toNat hs.legal).1, timeoutView_held hs.legal rfl hm⟩
  · have hle : s.count.toNat - 1 < 2 ^ 8 := by omega
    rw [hinactive hm]
    exact BitVec.toNat_ofNat .. ▸ Nat.mod_eq_of_lt hle

/-- Clearing the bits of a mask clears them all (R466). -/
theorem and_not_and_self (a m : Byte) : a &&& ~~~m &&& m = 0#8 := by
  rw [BitVec.and_assoc, BitVec.and_comm (~~~m), BitVec.and_not_self]
  exact BitVec.and_zero

/-- Settles O31: the run to the transfer and from it. -/
theorem tickServiceExpires : Obligations.TickServiceExpires := by
  intro s rest hs hq hm hc hi hr
  refine ⟨_, rfl, tick_leads_expired hs hq hm hc hi hr, and_not_and_self s.led s.mmask, ?_, rfl⟩
  show s.led &&& ~~~s.mmask &&& ~~~s.mmask = _
  rw [BitVec.and_assoc, BitVec.and_self]

/-! ## The services that a sequencer at rest takes -/

/-- With no job in progress and nothing offered, a coming event that waits for rest happens next (log entry 2). -/
theorem nextEvent_free {s : State} {e : Event} {rest : List Input} (hs : Ready s) (ho : s.offered = none)
    (hi : s.inputs = lazily e :: rest) (he : e.enabled s = true) : s.nextEvent = some (e, s.withInputs rest) := by
  refine State.nextEvent_lazily hi ?_ he
  rcases State.isBusy_false hs.free with hq | hq <;> simp [State.atRest, hs.run, hq, ho]

/-- A change of the pin between jobs (R610). -/
theorem leads_pin {s : State} {l : Bool} {rest : List Input} (hs : Ready s) (ho : s.offered = none)
    (hi : s.inputs = lazily (.pin l) :: rest) :
    Leads s { s with motionN := l, motionPend := s.motionPend || (s.motionN && !l), inputs := rest } := by
  refine Leads.head ?_ (Leads.refl _)
  rw [step, plan, if_pos hs.legal, nextEvent_free hs ho hi rfl]
  simp [Event.fire, pinEvent_eq, State.withInputs, hs.run]

/-- A tick between jobs (R460). -/
theorem leads_tick {s : State} {rest : List Input} (hs : Ready s) (ho : s.offered = none)
    (hi : s.inputs = lazily .tick :: rest) : Leads s { s with tickPend := true, inputs := rest } := by
  refine Leads.head ?_ (Leads.refl _)
  rw [step, plan, if_pos hs.legal, nextEvent_free hs ho hi (by simp [Event.enabled, hs.run])]
  rfl

/-- With one flag pending and nothing offered its service is the only candidate, whatever the `PRIORITY` (R620, R624). -/
theorem candidates_onlyPending {s : State} {src : Source} (hl : s.cfg.legal = true) (ho : s.offered = none)
    (hp : ∀ x, s.pending x = true ↔ x = src) : s.candidates = [.service src] := by
  cases hpr : s.cfg.priority with
  | any =>
    have hpending : s.pending = fun x => decide (x = src) := funext fun x => Bool.eq_iff_iff.2 (by simp [hp x])
    have hsources : s.pendingSources = [src] := by rw [State.pendingSources, hpending]; cases src <;> rfl
    simp [State.candidates, hpr, hsources, State.hostCandidate, ho]
  | order a b c =>
    obtain ⟨-, -, -, -, -, -, -, horder⟩ := Config.legal_iff.1 hl
    have hmem : src ∈ [a, b, c] := by simpa using horder a b c hpr src
    have hfind : [a, b, c].find? s.pending = some src := by
      cases hf : [a, b, c].find? s.pending with
      | none => exact absurd ((hp src).2 rfl) (List.find?_eq_none.1 hf src hmem)
      | some x => rw [(hp x).1 (List.find?_some hf)]
    simp [State.candidates, hpr, State.ordered, hfind]

/-- The sequencer takes the only candidate when no event is due (R620). -/
theorem leads_onlyService {s : State} {src : Source} (hs : Ready s) (hc : s.candidates = [.service src])
    (hi : Patient s.inputs) (ht : SequencerTurn s) : Leads s (s.startService src) := by
  refine Leads.head ?_ (Leads.refl _)
  rw [step, plan_onlyCandidate hs hc ht, State.passMove_of_patient hi]
  rfl

/-- The sequencer takes the candidate it is told to when it is at rest (R312, R620). -/
theorem leads_chosenService {s : State} {src : Source} {rest : List Input} (hs : Ready s) (ho : s.offered = none)
    (hc : .service src ∈ s.candidates) (hi : s.inputs = lazily (.run (.service src)) :: rest) :
    Leads s ((s.startService src).withInputs rest) := by
  have he : (Event.run (.service src)).enabled s = true := by
    simp [Event.enabled, State.canTake_iff.2 ⟨hs.run, hs.free⟩, hc]
  refine Leads.head ?_ (Leads.refl _)
  rw [step, plan, if_pos hs.legal, nextEvent_free hs ho hi he]
  rfl

/-! ## Ticks with the sensor inactive -/

/-- The sensor is inactive, nothing is offered and neither other source's flag is pending, in phase RUN: only ticks come. -/
structure OnlyTicks (s : State) : Prop where
  legal : s.cfg.legal = true
  run : s.phase = .run
  inactive : s.motionN = true
  offered : s.offered = none
  motionPend : s.motionPend = false
  scanPend : s.scanPend = false

/-- The block between jobs with no tick pending, `c` in `COUNT` and these events coming. -/
def counting (c : Nat) (l : List Input) (s : State) : State :=
  (released { s with tickPend := false, count := BitVec.ofNat 8 c }).withInputs l

/-- The block at K0 of the tick service, with its tick pending (R622), `c` in `COUNT` and these events coming. -/
def serving (c : Nat) (l : List Input) (s : State) : State :=
  { counting c l s with tickPend := true, seq := .busy (.tick .k0) }

/-- The events of a tick to be served wait for rest. -/
theorem patient_servedTicks {l : List Input} (h : Patient l) : ∀ n, Patient (servedTicks n ++ l)
  | 0 => h
  | _ + 1 => by simp [Patient, servedTicks, lazily]

/-- A tick comes and the sequencer takes its service (R460, R620). -/
theorem leads_serving {s : State} (hs : OnlyTicks s) (c : Nat) (l : List Input) :
    Leads (counting c (servedTicks 1 ++ l) s) (serving c l s) := by
  refine Leads.trans (leads_tick ⟨hs.legal, hs.run, rfl⟩ hs.offered rfl) ?_
  have hp : ∀ x, State.pending (serving c l s) x = true ↔ x = .tick := fun x => by
    cases x <;> simp [State.pending, serving, counting, released, State.withInputs, hs.motionPend, hs.scanPend]
  refine leads_chosenService (src := .tick) ⟨hs.legal, hs.run, rfl⟩ hs.offered ?_ rfl
  exact candidates_onlyPending (s := serving c l s) hs.legal hs.offered hp ▸ List.mem_singleton.2 rfl

/-- A tick served with the sensor inactive and `COUNT` above 1 takes 1 from `COUNT` (R465). -/
theorem leads_counting {s : State} (hs : OnlyTicks s) {c : Nat} (h0 : 0 < c) (hc : c < 255) {l : List Input}
    (hl : Patient l) : Leads (counting (c + 1) (servedTicks 1 ++ l) s) (counting c l s) := by
  have hcount : (serving (c + 1) l s).count.toNat = c + 1 := Nat.mod_eq_of_lt (by omega)
  have hne : (serving (c + 1) l s).count ≠ 1#8 := fun h => by simp [h] at hcount; omega
  have hserved := tick_leads_decremented (s := serving (c + 1) l s) ⟨hs.legal, hs.run, rfl⟩ hl hs.inactive hne
  rw [hcount, Nat.add_sub_cancel] at hserved
  exact Leads.trans (leads_serving hs (c + 1) l) hserved

/-- `n` ticks served with the sensor inactive take `n` from `COUNT`, down to 1 (R465, R472). -/
theorem leads_counting_one {s : State} (hs : OnlyTicks s) {l : List Input} (hl : Patient l) :
    ∀ n, n < 255 → Leads (counting (n + 1) (servedTicks n ++ l) s) (counting 1 l s)
  | 0, _ => Leads.refl _
  | n + 1, hn => Leads.trans (leads_counting hs n.succ_pos hn (patient_servedTicks hl n))
      (leads_counting_one hs hl n (Nat.lt_of_succ_lt hn))

/-- The last tick served with the sensor inactive, its completion coming, puts out the strips of `MMASK` (R466). -/
theorem leads_expired {s : State} (hs : OnlyTicks s) (hq : SpiIdle s) {l : List Input} (hl : Patient l) :
    Leads (counting 1 (servedTicks 1 ++ lazily .spiDone :: l) s)
      (counting 0 l (transferred (s.led &&& ~~~s.mmask) s)) :=
  Leads.trans (leads_serving hs 1 _)
    (tick_leads_expired (s := serving 1 (lazily .spiDone :: l) s) ⟨hs.legal, hs.run, rfl⟩ ⟨hq.en, hq.busy, hq.tc⟩
      hs.inactive rfl rfl hl)

/-! ## One motion trigger -/

/-- The block with a falling edge latched and these events coming (R440, R610). -/
def fallen (l : List Input) (s : State) : State := { s with motionN := false, motionPend := true, inputs := l }

/-- The block that a motion service has lit, the sensor inactive again (R443, R472). -/
def lit (s : State) : State := { transferred (s.led ||| s.mmask) s with motionN := true, motionPend := false }

/-- With no other flag pending and nothing offered, the sequencer takes a falling edge's service at once, as no completion
can come yet (R406, R620). -/
theorem leads_motionService {s : State} (hs : Ready s) (hq : SpiIdle s) (ho : s.offered = none)
    (htp : s.tickPend = false) (hsp : s.scanPend = false) (l : List Input) :
    Leads (fallen (lazily .spiDone :: l) s) ((fallen (lazily .spiDone :: l) s).startService .motion) := by
  have hp : ∀ x, State.pending (fallen (lazily .spiDone :: l) s) x = true ↔ x = .motion := fun x => by
    cases x <;> simp [State.pending, fallen, htp, hsp]
  exact leads_onlyService ⟨hs.legal, hs.run, hs.free⟩ (candidates_onlyPending hs.legal ho hp) (patient_inputs rfl)
    (State.nextEvent_not_enabled rfl hq.busy)

/-- One falling edge with no other flag pending, its service's completion, and the sensor's return to inactive: the service
runs and leaves `TIMEOUT_SEC` in `COUNT` (R440, R443, R610). -/
theorem leads_lit {s : State} {l : List Input} (hs : Ready s) (hq : SpiIdle s) (ho : s.offered = none)
    (hm : s.motionN = true) (htp : s.tickPend = false) (hsp : s.scanPend = false)
    (hi : s.inputs = lazily (.pin false) :: lazily .spiDone :: lazily (.pin true) :: l) :
    Leads s (counting s.cfg.timeoutSec l (lit s)) := by
  have hfall : Leads s (fallen (lazily .spiDone :: lazily (.pin true) :: l) s) := by
    simpa [hm, fallen] using leads_pin hs ho hi
  have hstart := leads_motionService hs hq ho htp hsp (lazily (.pin true) :: l)
  obtain ⟨t, rfl, hserved, -, -⟩ := motionServiceEffect ((fallen _ s).startService .motion) (lazily (.pin true) :: l)
    ⟨hs.legal, hs.run, rfl⟩ ⟨hq.en, hq.busy, hq.tc⟩ rfl (by simp [Patient, lazily])
  refine Leads.trans (Leads.trans hfall hstart) (Leads.trans hserved ?_)
  refine Leads.trans (leads_pin ⟨hs.legal, hs.run, rfl⟩ ho rfl) ?_
  simpa [counting, lit, released, transferred, State.withInputs, fallen, htp] using Leads.refl _

/-- Settles O33: the trigger, `TIMEOUT_SEC` - 1 ticks that only count, and the last. -/
theorem motionThenTimeout : Obligations.MotionThenTimeout := by
  intro s rest hs hq ho hmask hm _ htp hsp hi hr
  obtain ⟨⟨hpos, hle⟩, -⟩ := Config.legal_iff.1 hs.legal
  have hticks : OnlyTicks (lit s) := ⟨hs.legal, hs.run, rfl, ho, rfl, hsp⟩
  have hlast : Patient (servedTicks 1 ++ lazily .spiDone :: rest) := patient_servedTicks (by simp [Patient, lazily]) 1
  have hlit := leads_lit hs hq ho hm htp hsp hi
  have hcount := leads_counting_one hticks hlast (s.cfg.timeoutSec - 1) (by omega)
  rw [Nat.sub_add_cancel hpos] at hcount
  have hon : s.led ||| s.mmask = 0xFF#8 := by rw [hmask]; exact BitVec.or_allOnes
  have hoff : (s.led ||| s.mmask) &&& ~~~s.mmask = 0x00#8 := by rw [hon, hmask]; rfl
  exact ⟨_, _, Leads.trans hlit hcount, rfl, congrArg (fun v => s.obs ++ [Obs.latch v]) hon, hon, hon, rfl,
    leads_expired hticks ⟨rfl, rfl, rfl⟩ hr, rfl, congrArg (fun v => (lit s).obs ++ [Obs.latch v]) hoff, hoff, hoff, rfl⟩

end Sys2Proof.Machine
end

section
/-! Proof of the statement on how `COUNT` reaches 0 (43_timeout.md R471): the law of `COUNT` that every step keeps, whatever
happens on the run, and the same law of the function on values. -/

namespace Sys2Proof.Machine

open Sys2Proof.Safety

/-! ## What a statement does with the phase and the job -/

/-- A statement of the job `j`, from `s` to `t`, keeps the phase or enters RUN, and leaves the same job in progress or none
(R630, R710). -/
structure StatementGoes (j : Job) (s t : State) : Prop where
  phase : t.phase = s.phase ∨ t.phase = .run
  job : t.seq = .idle ∨ ∃ j', t.seq = .busy j' ∧ SameJob j j'

theorem StatementGoes.goto {j j' : Job} {s t : State} (hp : t.phase = s.phase) (hj : SameJob j j') :
    StatementGoes j s (t.goto j') := ⟨.inl hp, .inr ⟨j', rfl, hj⟩⟩

theorem hostStep_goes (i : Instr) (p : HostPos) (s : State) : StatementGoes (.host i p) s (hostStep i p s) := by
  have f := hostStep_frame i p s
  exact ⟨.inl f.phase, f.job.imp_right fun ⟨p', h⟩ => ⟨.host i p', h, rfl⟩⟩

theorem motionStep_goes (p : MotionPos) (s : State) : StatementGoes (.motion p) s (motionStep p s) := by
  cases p with
  | transfer p =>
    rcases motionStep_transfer p s with ⟨p', -, e⟩ | ⟨-, e⟩ <;> exact e ▸ .goto (transferStep_frame p s).phase trivial
  | m4 => exact ⟨.inl rfl, .inl rfl⟩
  | _ => exact .goto (by simp) trivial

theorem tickStep_goes (p : TickPos) (s : State) : StatementGoes (.tick p) s (tickStep p s) := by
  cases p with
  | transfer p =>
    rcases tickStep_transfer p s with ⟨p', -, e⟩ | ⟨-, e⟩ <;> exact e ▸ .goto (transferStep_frame p s).phase trivial
  | k8 => exact ⟨.inl rfl, .inl rfl⟩
  | k1 | k3 | k5 => simp only [tickStep]; split <;> exact .goto rfl trivial
  | _ => exact .goto (by simp) trivial

theorem scanStep_goes (p : ScanPos) (s : State) : StatementGoes (.scan p) s (scanStep p s) := by
  cases p with
  | transfer p =>
    rcases scanStep_transfer p s with ⟨p', -, e⟩ | ⟨-, e⟩ <;> exact e ▸ .goto (transferStep_frame p s).phase trivial
  | filter p =>
    rcases scanStep_filter p s with ⟨p', -, e⟩ | ⟨-, e⟩ <;> exact e ▸ .goto (filterStep_frame p s).phase trivial
  | c6 => exact ⟨.inl rfl, .inl rfl⟩
  | b1 | b2 | a1 | a2 | a4 => simp only [scanStep]; split <;> exact .goto rfl trivial
  | _ => exact .goto (by simp) trivial

theorem calStep_goes (p : CalPos) (s : State) : StatementGoes (.cal p) s (calStep p s) := by
  cases p with
  | filter p =>
    rcases calStep_filter p s with ⟨p', -, e⟩ | ⟨-, e⟩ <;> exact e ▸ .goto (filterStep_frame p s).phase trivial
  | l7 => exact ⟨.inr rfl, .inl rfl⟩
  | l2Test => simp only [calStep]; split <;> exact .goto rfl trivial
  | _ => exact .goto rfl trivial

theorem jobStep_goes (j : Job) (s : State) : StatementGoes j s (jobStep j s) := by
  cases j with
  | host i p => exact hostStep_goes i p s
  | motion p => exact motionStep_goes p s
  | tick p => exact tickStep_goes p s
  | scan p => exact scanStep_goes p s
  | cal p => exact calStep_goes p s

/-- Phase RUN is never left (R710). -/
theorem step_run {s t : State} (hp : s.phase = .run) (h : step s = .next t) : t.phase = .run := by
  obtain ⟨-, hcase⟩ := step_cases h
  cases hcase with
  | event e rest he hrun hn ht => exact ht ▸ (e.fire_frame { s with inputs := rest }).phase.trans hp
  | reset hr ht => cases hp.symm.trans hr
  | statement j hr hj hn ht =>
    have hgoes := (jobStep_goes j s.passMove).phase
    rw [s.passMove_phase, hp, or_self] at hgoes
    exact ht ▸ hgoes
  | service src l n hc ht => exact ht ▸ hp
  | sleep hc ht => exact ht ▸ s.passMove_phase.trans hp
  | nothing hr hb l n ht => exact ht ▸ hp
  | transaction i l n hc hpl ht =>
    exact ht ▸ (runJob_host_frame (s := (s.recast l n).startHost i) rfl _).phase.trans hp

/-! ## The law of `COUNT` along a run -/

/-- What `COUNT` holds when the sequencer stands at `q`, `n` consecutive tick services having read the sensor inactive since
`COUNT` was set to `timeout` (R471): at K3 and K4 the count of this service is still to come, at M2 and K2 `COUNT` is about
to be set. -/
def CountLaw (timeout n : Nat) (count : Byte) : Seq → Prop
  | .busy (.motion .m2) => True
  | .busy (.tick .k2) => True
  | .busy (.tick .k3) => count.toNat = timeout + 1 - n
  | .busy (.tick .k4) => count.toNat = timeout + 1 - n ∧ 0 < count.toNat
  | _ => count.toNat = timeout - n

/-- The count of inactive tick services after a statement of the job `j` that reads the sensor at `level` (R471). -/
def inactiveAt (level : Bool) (n : Nat) : Job → Nat
  | .tick .k1 => if level then n + 1 else 0
  | .tick .k2 => 0
  | .motion .m2 => 0
  | _ => n

theorem inactiveAfter_statement {s : State} {j : Job} {n : Nat} (hn : s.nextEvent = none) (hj : s.seq = .busy j) :
    inactiveAfter s n = inactiveAt s.motionN n j := by
  simp only [inactiveAfter, hn, hj, Option.isSome_none, Bool.false_eq_true, if_false]
  unfold inactiveAt
  cases j with
  | motion p => cases p <;> rfl
  | tick p => cases p <;> rfl
  | _ => rfl

/-- Outside the two services that write `COUNT` the law says one thing. -/
theorem countLaw_of_sameJob {timeout n : Nat} {c : Byte} {j : Job} {q : Seq} (hm : ∀ p, j ≠ .motion p)
    (ht : ∀ p, j ≠ .tick p) (hq : q = .idle ∨ ∃ j', q = .busy j' ∧ SameJob j j') :
    CountLaw timeout n c q ↔ c.toNat = timeout - n := by
  rcases hq with rfl | ⟨j', rfl, h⟩
  · exact Iff.rfl
  · cases j with
    | motion p => exact absurd rfl (hm p)
    | tick p => exact absurd rfl (ht p)
    | _ => cases j' <;> first | exact h.elim | exact Iff.rfl

/-- A statement of the tick service keeps the law: K1 counts the service, K2 begins again, and K4 takes 1 (R463). -/
theorem tickStep_countLaw {p : TickPos} {s : State} {n : Nat} (hl : s.cfg.legal = true)
    (h : CountLaw s.cfg.timeoutSec n s.count (.busy (.tick p))) :
    CountLaw s.cfg.timeoutSec (inactiveAt s.motionN n (.tick p)) (tickStep p s).count (tickStep p s).seq := by
  cases p with
  | k0 => exact (s.clearAtEntry_count .tick).symm ▸ h
  | k1 =>
    have hread : s.count.toNat = s.cfg.timeoutSec - n := h
    rw [tickStep_k1]
    cases hm : s.motionN with
    | false => trivial
    | true =>
      show s.count.toNat = s.cfg.timeoutSec + 1 - (n + 1)
      omega
  | k2 => exact (timeout_toNat hl).1
  | k3 =>
    have hread : s.count.toNat = s.cfg.timeoutSec + 1 - n := h
    rw [tickStep_k3]
    by_cases hpos : 0 < s.count.toNat
    · rw [if_pos hpos]
      exact ⟨hread, hpos⟩
    · rw [if_neg hpos]
      show s.count.toNat = s.cfg.timeoutSec - n
      omega
  | k4 =>
    obtain ⟨hread, hpos⟩ : s.count.toNat = s.cfg.timeoutSec + 1 - n ∧ 0 < s.count.toNat := h
    show (s.count - 1#8).toNat = s.cfg.timeoutSec - n
    have hless : (s.count - 1#8).toNat = s.count.toNat - 1 := by bv_omega
    omega
  | k5 =>
    rw [tickStep_k5]
    split <;> exact h
  | k6 => exact h
  | transfer p =>
    have hc := (transferStep_frame p s).count
    rcases tickStep_transfer p s with ⟨p', -, e⟩ | ⟨-, e⟩ <;> rw [e] <;> exact hc.symm ▸ h
  | k7 => exact (s.clearAtExit_count .tick).symm ▸ h
  | k8 => exact h

/-- A statement of the motion service keeps the law: M2 begins again (R443). -/
theorem motionStep_countLaw {p : MotionPos} {s : State} {n : Nat} (hl : s.cfg.legal = true)
    (h : CountLaw s.cfg.timeoutSec n s.count (.busy (.motion p))) :
    CountLaw s.cfg.timeoutSec (inactiveAt s.motionN n (.motion p)) (motionStep p s).count (motionStep p s).seq := by
  cases p with
  | m0 => exact (s.clearAtEntry_count .motion).symm ▸ h
  | m1 => exact h
  | transfer p =>
    have hc := (transferStep_frame p s).count
    rcases motionStep_transfer p s with ⟨p', -, e⟩ | ⟨-, e⟩ <;> rw [e]
    · exact hc.symm ▸ h
    · trivial
  | m2 => exact (timeout_toNat hl).1
  | m3 => exact (s.clearAtExit_count .motion).symm ▸ h
  | m4 => exact h

/-- A statement of a job that is neither service keeps `COUNT`, and so the law (R104). -/
theorem jobStep_countLaw_other {j : Job} {s : State} {n : Nat} (hm : ∀ p, j ≠ .motion p) (ht : ∀ p, j ≠ .tick p)
    (h : CountLaw s.cfg.timeoutSec n s.count (.busy j)) :
    CountLaw s.cfg.timeoutSec (inactiveAt s.motionN n j) (jobStep j s).count (jobStep j s).seq := by
  have hsame : SameJob j j := by cases j <;> trivial
  have hn : inactiveAt s.motionN n j = n := by
    cases j with
    | motion p => exact absurd rfl (hm p)
    | tick p => exact absurd rfl (ht p)
    | _ => rfl
  have hc : (jobStep j s).count = s.count := by
    rcases (jobStep_writes j s).count with hc | ⟨hj | hj, -⟩ | ⟨hj, -⟩
    · exact hc
    · exact absurd hj (hm _)
    · exact absurd hj (ht _)
    · exact absurd hj (ht _)
  rw [countLaw_of_sameJob hm ht (.inr ⟨j, rfl, hsame⟩)] at h
  rw [hn, hc, countLaw_of_sameJob hm ht (jobStep_goes j s).job]
  exact h

theorem jobStep_countLaw {j : Job} {s : State} {n : Nat} (hl : s.cfg.legal = true)
    (h : CountLaw s.cfg.timeoutSec n s.count (.busy j)) :
    CountLaw s.cfg.timeoutSec (inactiveAt s.motionN n j) (jobStep j s).count (jobStep j s).seq := by
  cases j with
  | motion p => exact motionStep_countLaw hl h
  | tick p => exact tickStep_countLaw hl h
  | _ => exact jobStep_countLaw_other nofun nofun h

/-- Between jobs the law says one thing. -/
theorem countLaw_of_free {timeout n : Nat} {s : State} {c : Byte} (hb : s.isBusy = false) :
    CountLaw timeout n c s.seq ↔ c.toNat = timeout - n := by
  rcases State.isBusy_false hb with hq | hq <;> rw [hq] <;> exact Iff.rfl

/-- Every step in phase RUN keeps the law, whatever happens in it (R471). -/
theorem step_countLaw {s t : State} {n : Nat} (hp : s.phase = .run) (hs : step s = .next t)
    (h : CountLaw s.cfg.timeoutSec n s.count s.seq) :
    CountLaw s.cfg.timeoutSec (inactiveAfter s n) t.count t.seq := by
  obtain ⟨hl, hcase⟩ := step_cases hs
  cases hcase with
  | event e rest he hrun hn ht =>
    have f := e.fire_frame { s with inputs := rest }
    rw [inactiveAfter_event hn, ht, f.count, f.seq]
    exact h
  | reset hr ht => cases hp.symm.trans hr
  | statement j hr hj hn ht =>
    obtain ⟨l, hpass⟩ := s.passMove_recast
    rw [inactiveAfter_statement hn hj, ht, hpass]
    exact jobStep_countLaw (s := s.recast l s.draws) hl (hj ▸ h)
  | service src l n' hc ht =>
    have hb := (State.canTake_iff.1 hc).2
    rw [countLaw_of_free hb] at h
    rw [inactiveAfter_free hb, ht]
    cases src <;> exact h
  | sleep hc ht =>
    have hb := (State.canTake_iff.1 hc).2
    rw [countLaw_of_free hb] at h
    rw [inactiveAfter_free hb, ht]
    exact s.passMove_count ▸ h
  | nothing hr hb l n' ht =>
    rw [inactiveAfter_free hb, ht]
    exact h
  | transaction i l n' hc hpl ht =>
    have hb := (State.canTake_iff.1 hc).2
    have f := runJob_host_frame (s := (s.recast l n').startHost i) rfl (s.recast l n').hostFuel
    rw [countLaw_of_free hb] at h
    rw [inactiveAfter_free hb, ht, f.count,
      countLaw_of_sameJob (j := .host i .body) nofun nofun (f.job.imp_right fun ⟨p, hq⟩ => ⟨.host i p, hq, rfl⟩)]
    exact h

/-- Along a counted run the parameters stay, phase RUN stays, and so does the law (R471). -/
theorem countedRun_countLaw {k : Nat} {s t : State} {n m : Nat} (hp : s.phase = .run)
    (h : CountLaw s.cfg.timeoutSec n s.count s.seq) (hr : countedRun k s n = some (t, m)) :
    t.phase = .run ∧ t.cfg = s.cfg ∧ CountLaw s.cfg.timeoutSec m t.count t.seq := by
  induction k generalizing s n with
  | zero =>
    cases hr
    exact ⟨hp, rfl, h⟩
  | succ k ih =>
    simp only [countedRun] at hr
    split at hr
    · next u hu =>
      have hcfg := (observationGrows s u hu).1
      obtain ⟨hrun, hcfg', hlaw⟩ := ih (step_run hp hu) (hcfg ▸ step_countLaw hp hu h) hr
      exact ⟨hrun, hcfg'.trans hcfg, hcfg ▸ hlaw⟩
    · cases hr
    · cases hr

/-- A step at K4 that changes `COUNT` is the statement, which goes to K5 (R463). -/
theorem step_k4 {s t : State} (hp : s.phase = .run) (hj : s.seq = .busy (.tick .k4)) (hs : step s = .next t)
    (hne : t.count ≠ s.count) : t.seq = .busy (.tick .k5) := by
  rw [step_busy (step_cases hs).1 (by simp [hp]) hj] at hs
  cases hs
  rcases jobMove_cases hj with ⟨e, rest, -, -, hm⟩ | ⟨-, hm⟩
  · exact absurd (hm ▸ (e.fire_frame { s with inputs := rest }).count) hne
  · rw [hm]
    rfl

/-! ## The law of the function on values -/

theorem replicate_suffix_replicate {m n : Nat} (h : m ≤ n) (level : Bool) :
    List.replicate m level <:+ List.replicate n level :=
  ⟨List.replicate (n - m) level, by rw [List.replicate_append_replicate, Nat.sub_add_cancel h]⟩

/-- After tick services at these levels, from `COUNT` at `timeout`, at least as many of the last of them as `COUNT` is below
`timeout` have read the sensor inactive (R471). -/
theorem replicate_suffix_of_tickCount (timeout : Nat) (levels : List Bool) :
    List.replicate (timeout - levels.foldl (tickCount timeout) timeout) true <:+ levels := by
  induction levels using List.reverseRecOn with
  | nil => simp
  | append_singleton levels level ih =>
    rw [List.foldl_append, List.foldl_cons, List.foldl_nil]
    generalize levels.foldl (tickCount timeout) timeout = count at ih ⊢
    cases level with
    | false => simp [tickCount]
    | true =>
      obtain ⟨before, hbefore⟩ := ih
      have hle : timeout - (count - 1) ≤ timeout - count + 1 := by omega
      refine (replicate_suffix_replicate hle true).trans ⟨before, ?_⟩
      rw [List.replicate_succ', ← List.append_assoc, hbefore]

/-- Settles O32: the law of `COUNT` at K4, and the function's. -/
theorem timeoutNeedsInactiveTicks : Obligations.TimeoutNeedsInactiveTicks := by
  constructor
  · intro k n s t u hp hset hrun hstep hne hzero
    have hstart : CountLaw s.cfg.timeoutSec 0 s.count s.seq := by rcases hset with hq | hq <;> rw [hq] <;> trivial
    obtain ⟨hpt, hcfg, hlaw⟩ := countedRun_countLaw hp hstart hrun
    have hchanged : u.count ≠ t.count := fun h => hne (h ▸ hzero)
    obtain ⟨htimeout, hpos⟩ := timeout_toNat (step_cases hstep).1
    rcases countWrittenOnlyByServices t u hstep hchanged with hr | ⟨-, hc⟩ | ⟨hk4, hc⟩
    · cases hpt.symm.trans hr
    · rw [← hc, hzero] at htimeout
      exact absurd htimeout hpos.ne
    · rw [hk4] at hlaw
      obtain ⟨hcount, -⟩ : t.count.toNat = s.cfg.timeoutSec + 1 - n ∧ 0 < t.count.toNat := hlaw
      have hone : t.count.toNat = 1 := by bv_omega
      exact ⟨by omega, hk4, step_k4 hpt hk4 hstep hchanged⟩
  · intro timeout levels _ hzero
    have hsuffix := replicate_suffix_of_tickCount timeout levels
    rw [hzero, Nat.sub_zero] at hsuffix
    have hlast := List.suffix_iff_eq_drop.1 hsuffix
    rw [List.length_replicate] at hlast
    exact ⟨by simpa using hsuffix.length_le, fun l hl => List.eq_of_mem_replicate (hlast ▸ hl)⟩

end Sys2Proof.Machine
end

section
/-! Proofs of the statements on the touch sensor's values and its ADC (44_touch.md R487, R492, R501, R520). -/

namespace Sys2Proof.Machine

open Sys2Proof.Safety

/-! ## The response of `RD.TSTAT` -/

/-- Of the four low bits only bit 0 can be set, and it is `TSTATE` (R520). -/
theorem tstatByte_getLsbD_low (s : State) {n : Nat} (h : n < 4) :
    s.tstatByte.getLsbD n = (decide (n = 0) && s.tstate) := by
  refine (BitVec.getLsbD_append (x := s.tdeb) (y := 0b000#3 ++ BitVec.ofBool s.tstate)).trans ?_
  cases s.tstate <;> interval_cases n <;> rfl

theorem tstatByte_bits3_1 (s : State) : s.tstatByte.extractLsb' 1 3 = 0#3 := by
  ext n hn
  rw [BitVec.getElem_extractLsb', tstatByte_getLsbD_low s (by omega)]
  simp

theorem tstatByte_bits7_4 (s : State) : s.tstatByte.extractLsb' 4 4 = s.tdeb :=
  BitVec.extractLsb'_append_eq_left

/-- Settles O22: the read's response is `tstatByte`, and the invariant bounds `TDEB`. -/
theorem tstatLayout : Obligations.TstatLayout := by
  refine ⟨by decide, fun s hs hq ha => ?_⟩
  obtain ⟨⟨t, ht, -, -, hobs, -⟩, -⟩ := readEffect .rdTstat s.tstatByte s hs hq ha rfl
  refine ⟨t, s.tstatByte, ht, hobs, tstatByte_getLsbD_low s (by decide), tstatByte_bits3_1 s, tstatByte_bits7_4 s,
    fun hinv => ?_⟩
  rw [tstatByte_bits7_4]
  exact Nat.le_sub_one_of_lt hinv.tdeb

/-! ## Classification -/

/-- Settles O34: the margin is the difference, which counts only above the baseline. -/
theorem classifyBoundary : Obligations.ClassifyBoundary := by
  constructor
  · intro c sample base
    simp only [classify, Bool.and_eq_true, decide_eq_true_eq]
    constructor
    · rintro ⟨hlt, hle⟩
      exact ⟨sample.toNat - base.toNat, by omega, by omega, hle⟩
    · rintro ⟨d, hpos, hsum, hle⟩
      omega
  · intro c hc
    simp [classify, hc]

/-! ## `ADC_DONE` -/

/-- A result of `ADC_BITS` bits is delivered as it is (R487). -/
theorem adcDoneEvent_eq {r : Reading} {s : State} (h : r.toNat < 2 ^ s.cfg.adcBits) :
    adcDoneEvent r s = { s with adcRes := r, adcBusy := false, adcResRdy := true } := by
  rw [adcDoneEvent, Nat.mod_eq_of_lt h, BitVec.ofNat_toNat, BitVec.setWidth_eq]

/-- Settles O35: the event's move, or its waiting. -/
theorem adcDoneEffect : Obligations.AdcDoneEffect := by
  intro s r rest hl hi
  constructor
  · intro hb hr
    rw [step, plan, if_pos hl, State.nextEvent_atOnce hi hb]
    exact congrArg Host.Outcome.next (adcDoneEvent_eq (s := s.withInputs rest) hr)
  · exact State.nextEvent_not_enabled hi

/-! ## The baseline step -/

/-- The stepped baseline is not below both the old one and the sample, nor above both (R501). -/
theorem adapted_between (shift sample base : Nat) :
    min base sample ≤ adapted shift sample base ∧ adapted shift sample base ≤ max base sample := by
  have hup := Nat.div_le_self (sample - base) (2 ^ shift)
  have hdown := Nat.div_le_self (base - sample) (2 ^ shift)
  rw [min_le_iff, le_max_iff, adapted]
  generalize (sample - base) / 2 ^ shift = up at *
  generalize (base - sample) / 2 ^ shift = down at *
  split <;> omega

/-- A difference below `2 ^ BASELINE_SHIFT` moves nothing (R501). -/
theorem adapted_deadBand {shift sample base : Nat} (hup : sample < base + 2 ^ shift)
    (hdown : base < sample + 2 ^ shift) : adapted shift sample base = base := by
  unfold adapted
  split
  · rw [Nat.div_eq_of_lt (by omega), Nat.add_zero]
  · rw [Nat.div_eq_of_lt (by omega), Nat.sub_zero]

/-- Shift 0 copies the sample (R501). -/
theorem adapted_zero_shift (sample base : Nat) : adapted 0 sample base = sample := by
  unfold adapted
  split <;> simp only [Nat.pow_zero, Nat.div_one] <;> omega

/-- A3 computes the step up on 16 bits without overflow (R500). -/
theorem baselineUp_toNat {c : Config} {sample base : Half} (h : base.toNat < sample.toNat) :
    (baselineUp c sample base).toNat = adapted c.baselineShift sample.toNat base.toNat := by
  have hsub : (sample - base).toNat = sample.toNat - base.toNat := BitVec.toNat_sub_of_le (BitVec.le_def.2 h.le)
  have hdiv := Nat.div_le_self (sample.toNat - base.toNat) (2 ^ c.baselineShift)
  rw [baselineUp, adapted, if_pos h, BitVec.toNat_add, BitVec.toNat_ushiftRight, hsub, Nat.shiftRight_eq_div_pow]
  exact Nat.mod_eq_of_lt (by omega)

/-- A5 computes the step down on 16 bits without underflow (R500). -/
theorem baselineDown_toNat {c : Config} {sample base : Half} (h : sample.toNat < base.toNat) :
    (baselineDown c sample base).toNat = adapted c.baselineShift sample.toNat base.toNat := by
  have hsub : (base - sample).toNat = base.toNat - sample.toNat := BitVec.toNat_sub_of_le (BitVec.le_def.2 h.le)
  have hdiv := Nat.div_le_self (base.toNat - sample.toNat) (2 ^ c.baselineShift)
  have hshift : ((base - sample) >>> c.baselineShift).toNat = (base.toNat - sample.toNat) / 2 ^ c.baselineShift := by
    rw [BitVec.toNat_ushiftRight, hsub, Nat.shiftRight_eq_div_pow]
  rw [baselineDown, adapted, if_neg h.not_gt, BitVec.toNat_sub_of_le (BitVec.le_def.2 (by omega)), hshift]

/-- Settles O39: the bounds, the dead band, the copy, and what A3 and A5 compute. -/
theorem baselineStepBounded : Obligations.BaselineStepBounded :=
  ⟨fun shift sample base => ⟨(adapted_between shift sample base).1, (adapted_between shift sample base).2,
      adapted_deadBand, adapted_zero_shift sample base⟩,
    fun _ _ _ => ⟨baselineUp_toNat, baselineDown_toNat⟩, by decide⟩

end Sys2Proof.Machine
end

section
/-! Proofs of the statements on `FILTERED_SAMPLE` and `CAL_JOB` (44_touch.md R486, R490, R511): a filtered sample as a run
of steps inside a job, and the calibration as filtered samples one after the other. -/

namespace Sys2Proof.Machine

open Sys2Proof.Safety

/-! ## Runs of a job in phase CAL or RUN -/

/-- A legal block past the reset step with this job in progress (R140, R711). -/
structure Working (j : Job) (s : State) : Prop where
  legal : s.cfg.legal = true
  past : s.phase ≠ .reset
  at_job : s.seq = .busy j

theorem working_of_running {j : Job} {s : State} (h : Running j s) : Working j s :=
  ⟨h.legal, by simp [h.run], h.at_job⟩

/-- A run that begins with a statement of the job in progress. -/
theorem Working.leads_statement {j : Job} {s t : State} (h : Working j s) (hi : Patient s.inputs)
    (hr : j.holds s = false) (h' : Leads (jobStep j s) t) : Leads s t :=
  Leads.head (step_statement h.legal h.past h.at_job hi hr) h'

/-- A run that begins at an `await` with the event that waits for it. -/
theorem Working.leads_event {j : Job} {s t : State} {e : Event} {rest : List Input} (h : Working j s)
    (hi : s.inputs = lazily e :: rest) (hr : j.holds s = true) (he : e.enabled s = true)
    (h' : Leads (e.fire (s.withInputs rest)) t) : Leads s t :=
  Leads.head (step_event h.legal h.past h.at_job hi hr he) h'

/-- Readings to come wait for the conversions (log entry 2). -/
theorem patient_conversions {l : List Input} (h : Patient l) (rs : List Reading) : Patient (conversions rs ++ l) := by
  cases rs with
  | nil => exact h
  | cons r rs => simp [Patient, conversions, lazily]

theorem conversions_append (rs rs' : List Reading) : conversions (rs ++ rs') = conversions rs ++ conversions rs' :=
  List.map_append

/-! ## The mean of readings -/

/-- A result within the largest reading has `ADC_BITS` bits (R487). -/
theorem lt_of_le_maxReading {c : Config} {n : Nat} (h : n ≤ maxReading c) : n < 2 ^ c.adcBits :=
  Nat.lt_of_le_pred (by positivity) h

theorem scanSamples_pos {c : Config} (h : c.legal = true) : 0 < c.scanSamples := by
  obtain ⟨-, ⟨n, -, hs, -⟩, -⟩ := Config.legal_iff.1 h
  rw [hs]
  positivity

/-- Sixty-four of the largest readings at most add up within 16 bits (R14). -/
theorem sum_lt_of_le_maxReading {c : Config} {l : List Nat} (hl : c.legal = true) (hn : l.length ≤ 64)
    (h : ∀ x ∈ l, x ≤ maxReading c) : l.sum < 2 ^ 16 := by
  obtain ⟨-, -, -, -, -, -, ⟨-, hbits⟩, -⟩ := Config.legal_iff.1 hl
  have hmax : maxReading c ≤ 2 ^ 10 - 1 := Nat.sub_le_sub_right (Nat.pow_le_pow_right (by decide) hbits) 1
  calc l.sum ≤ l.length * maxReading c := List.sum_le_card_nsmul l _ h
    _ ≤ 64 * (2 ^ 10 - 1) := Nat.mul_le_mul hn hmax
    _ < 2 ^ 16 := by decide

/-- F4's shift of ACC is the floor of the readings' mean (R490). -/
theorem mean_ushiftRight {c : Config} {rs : List Reading} (hl : c.legal = true) (hn : rs.length = c.scanSamples)
    (hr : ∀ r ∈ rs, r.toNat ≤ maxReading c) :
    BitVec.ofNat 16 (rs.map (fun r => r.toNat)).sum >>> c.sampleShift = BitVec.ofNat 16 (filtered rs) := by
  obtain ⟨-, ⟨n, hle, hs, hn'⟩, -⟩ := Config.legal_iff.1 hl
  have hlen : (rs.map (fun r => r.toNat)).length ≤ 64 := by
    rw [List.length_map, hn, hs]
    exact Nat.pow_le_pow_right (by decide) hle
  have hsum := sum_lt_of_le_maxReading hl hlen (by simpa using hr)
  apply BitVec.eq_of_toNat_eq
  rw [BitVec.toNat_ushiftRight, BitVec.toNat_ofNat, BitVec.toNat_ofNat, Nat.mod_eq_of_lt hsum,
    Nat.shiftRight_eq_div_pow, filtered, hn, hs, hn', Nat.mod_eq_of_lt ((Nat.div_le_self _ _).trans_lt hsum)]

/-! ## A `FILTERED_SAMPLE` inside a job -/

/-- The job that stands at `pos p` while it is at statement `p` of a `FILTERED_SAMPLE`, and goes on at `next` when the
sample has been taken (R23, R490). -/
structure RunsFilter (pos : FilterPos → Job) (next : Job) : Prop where
  step : ∀ p s, jobStep (pos p) s = (filterStep p s).2.goto (((filterStep p s).1.map pos).getD next)
  holds : ∀ p s, (pos p).holds s = (decide (p = .shot .s7) && !s.adcResRdy)

/-- The scan service takes its sample between C0 and C2 (R491). -/
theorem scan_runsFilter : RunsFilter (fun p => .scan (.filter p)) (.scan .c2) where
  step p s := by
    rcases scanStep_filter p s with ⟨p', hn, h⟩ | ⟨hn, h⟩ <;> simp [jobStep, h, hn]
  holds p s := by
    cases p with
    | shot p => cases p <;> rfl
    | _ => rfl

/-- `CAL_JOB` takes each sample between its loop's test and L4 (R511). -/
theorem cal_runsFilter : RunsFilter (fun p => .cal (.filter p)) (.cal .l4) where
  step p s := by
    rcases calStep_filter p s with ⟨p', hn, h⟩ | ⟨hn, h⟩ <;> simp [jobStep, h, hn]
  holds p s := by
    cases p with
    | shot p => cases p <;> rfl
    | _ => rfl

/-- The block with one more reading added by a single shot and F3 (R486, R490). -/
def added (s : State) (r : Reading) : State :=
  { s with
    acc := s.acc + r.setWidth 16, k := s.k + 1, adcMux := .pad, padMode := .float, adcBusy := false, adcResRdy := false,
    adcRes := r }

/-- One reading at least, and all that follow, show only in the accumulator, the count and the analog front end. -/
theorem foldl_added {rs : List Reading} (h : rs ≠ []) (s : State) :
    rs.foldl added s =
      { s with
        acc := s.acc + BitVec.ofNat 16 (rs.map (fun r => r.toNat)).sum, k := s.k + rs.length, adcMux := .pad,
        padMode := .float, adcBusy := false, adcResRdy := false, adcRes := rs.getLastD s.adcRes } := by
  induction rs generalizing s with
  | nil => exact absurd rfl h
  | cons r rs ih =>
    rw [List.foldl_cons]
    by_cases hrs : rs = []
    · simp [hrs, added, BitVec.ofNat_toNat]
    · rw [ih hrs]
      simp [added, BitVec.ofNat_add, BitVec.ofNat_toNat, BitVec.add_assoc, Nat.add_assoc, Nat.add_comm 1,
        List.getLastD_cons, -List.getLastD_eq_getLast?]

/-- The block with its job held at S7 of a single shot, before the result (R486, R488). -/
def converting (pos : FilterPos → Job) (s : State) : State :=
  { s with seq := .busy (pos (.shot .s7)), adcMux := .pad, padMode := .float, adcBusy := true }

section
variable {pos : FilterPos → Job} {next : Job}

/-- A run that begins with a statement of a `FILTERED_SAMPLE`, S7's only once the result is ready (R488, R490). -/
theorem RunsFilter.leads_statement (hp : RunsFilter pos next) {p : FilterPos} {s t : State} (h : Working (pos p) s)
    (hi : Patient s.inputs) (hrdy : p = .shot .s7 → s.adcResRdy = true)
    (h' : Leads ((filterStep p s).2.goto (((filterStep p s).1.map pos).getD next)) t) : Leads s t := by
  have hgo : (pos p).holds s = false := by simpa [hp.holds] using hrdy
  exact h.leads_statement hi hgo (hp.step p s ▸ h')

/-- A run that begins with a statement of a single shot that goes on in it (R486). -/
theorem RunsFilter.leads_shot (hp : RunsFilter pos next) {p p' : ShotPos} {s s' t : State}
    (h : Working (pos (.shot p)) s) (hi : Patient s.inputs) (hrdy : p = .s7 → s.adcResRdy = true)
    (hstep : shotStep p s = (.at p', s')) (h' : Leads (s'.goto (pos (.shot p'))) t) : Leads s t := by
  refine hp.leads_statement h hi (fun e => hrdy (FilterPos.shot.inj e)) ?_
  simpa only [filterStep, hstep, Option.map_some, Option.getD_some] using h'

/-- With no event before its hold a single shot comes to S7 in six statements (R486). -/
theorem RunsFilter.leads_converting (hp : RunsFilter pos next) {s : State} (hs : Working (pos (.shot .s1)) s)
    (hi : Patient s.inputs) : Leads s (converting pos s) := by
  refine hp.leads_shot hs hi nofun rfl ?_
  refine hp.leads_shot (p := .s2) ⟨hs.legal, hs.past, rfl⟩ hi nofun rfl ?_
  refine hp.leads_shot (p := .s3) ⟨hs.legal, hs.past, rfl⟩ hi nofun rfl ?_
  refine hp.leads_shot (p := .s4) ⟨hs.legal, hs.past, rfl⟩ hi nofun rfl ?_
  refine hp.leads_shot (p := .s5) ⟨hs.legal, hs.past, rfl⟩ hi nofun rfl ?_
  refine hp.leads_shot (p := .s6) ⟨hs.legal, hs.past, rfl⟩ hi nofun rfl ?_
  exact Leads.refl _

/-- The result that comes at the hold ends the single shot, and F3 adds it (R486, R487, R490). -/
theorem RunsFilter.leads_added (hp : RunsFilter pos next) {s : State} {r : Reading} {rest : List Input}
    (hs : Working (pos (.shot .s7)) (converting pos s)) (hrdy : s.adcResRdy = false)
    (hr : r.toNat < 2 ^ s.cfg.adcBits) (hi : s.inputs = lazily (.adcDone r) :: rest) (hrest : Patient rest) :
    Leads (converting pos s) (((added s r).goto (pos .f2Test)).withInputs rest) := by
  have hheld : (pos (.shot .s7)).holds (converting pos s) = true := by simp [hp.holds, converting, hrdy]
  refine hs.leads_event hi hheld rfl ?_
  rw [Event.fire, adcDoneEvent_eq (s := (converting pos s).withInputs rest) hr]
  refine hp.leads_shot (p := .s7) ⟨hs.legal, hs.past, rfl⟩ hrest (fun _ => rfl) rfl ?_
  refine hp.leads_statement (p := .shot .s8) ⟨hs.legal, hs.past, rfl⟩ hrest nofun ?_
  refine hp.leads_statement (p := .f3 r) ⟨hs.legal, hs.past, rfl⟩ hrest nofun ?_
  dsimp only [filterStep, shotStep, Option.map_some, Option.getD_some]
  exact Leads.refl _

/-- The test of the loop F2 leads to another single shot or to F4 (R490). -/
theorem RunsFilter.leads_test (hp : RunsFilter pos next) {p : FilterPos} {s t : State} (h : Working (pos .f2Test) s)
    (hi : Patient s.inputs) (hk : (if s.k < s.cfg.scanSamples then .shot .s1 else .f4) = p)
    (h' : Leads (s.goto (pos p)) t) : Leads s t := by
  have htest : filterStep .f2Test s = (some p, s) := by rw [filterStep, ← apply_ite some, hk]
  refine hp.leads_statement h hi nofun ?_
  rwa [htest]

/-- The loop F2 adds the readings that come, `SCAN_SAMPLES` in all, and goes to F4 (R490). -/
theorem RunsFilter.leads_gathered (hp : RunsFilter pos next) {rest : List Input} (hrest : Patient rest)
    {rs : List Reading} {s : State} (hl : s.cfg.legal = true) (hph : s.phase ≠ .reset) (hrdy : s.adcResRdy = false)
    (hk : s.k + rs.length = s.cfg.scanSamples) (hr : ∀ r ∈ rs, r.toNat < 2 ^ s.cfg.adcBits) :
    Leads ((s.goto (pos .f2Test)).withInputs (conversions rs ++ rest))
      (((rs.foldl added s).goto (pos .f4)).withInputs rest) := by
  induction rs generalizing s with
  | nil =>
    refine hp.leads_test ⟨hl, hph, rfl⟩ hrest (if_neg (show ¬ s.k < s.cfg.scanSamples from hk.not_lt)) ?_
    exact Leads.refl _
  | cons r rs ih =>
    rw [List.length_cons] at hk
    have hpat : Patient (conversions (r :: rs) ++ rest) := patient_conversions hrest (r :: rs)
    refine hp.leads_test ⟨hl, hph, rfl⟩ hpat (if_pos (show s.k < s.cfg.scanSamples by omega)) ?_
    refine Leads.trans (hp.leads_converting ⟨hl, hph, rfl⟩ hpat) ?_
    refine Leads.trans (hp.leads_added (r := r) ⟨hl, hph, rfl⟩ hrdy (hr r List.mem_cons_self) rfl
      (patient_conversions hrest rs)) ?_
    exact ih (s := added s r) hl hph rfl (by simp only [added]; omega) fun x hx => hr x (List.mem_cons_of_mem r hx)

/-- F1 to F4 with the readings coming at the holds (R490): the block is left as `sampled` says. -/
theorem RunsFilter.leads_sampled (hp : RunsFilter pos next) {rest : List Input} (hrest : Patient rest)
    {rs : List Reading} {s : State} (hl : s.cfg.legal = true) (hph : s.phase ≠ .reset) (hrdy : s.adcResRdy = false)
    (hn : rs.length = s.cfg.scanSamples) (hr : ∀ r ∈ rs, r.toNat ≤ maxReading s.cfg) :
    Leads ((s.goto (pos .f1)).withInputs (conversions rs ++ rest)) (((sampled rs s).goto next).withInputs rest) := by
  have hpat : Patient (conversions rs ++ rest) := patient_conversions hrest rs
  have hne : rs ≠ [] := List.ne_nil_of_length_pos (hn ▸ scanSamples_pos hl)
  refine hp.leads_statement (p := .f1) ⟨hl, hph, rfl⟩ hpat nofun ?_
  refine hp.leads_statement (p := .f2) ⟨hl, hph, rfl⟩ hpat nofun ?_
  refine Leads.trans (hp.leads_gathered (s := { s with acc := 0#16, k := 0 }) hrest hl hph hrdy
    ((Nat.zero_add _).trans hn) fun r hx => lt_of_le_maxReading (hr r hx)) ?_
  refine hp.leads_statement (p := .f4) ⟨?_, ?_, rfl⟩ hrest nofun ?_
  · rw [foldl_added hne]
    exact hl
  · rw [foldl_added hne]
    exact hph
  · simp only [foldl_added hne, filterStep, State.goto, State.withInputs, sampled, BitVec.zero_add, Nat.zero_add,
      Option.map_none, Option.getD_none, mean_ushiftRight hl hn hr]
    exact Leads.refl _

end

/-- Settles O36: the sample of the scan service. -/
theorem filteredSampleMean : Obligations.FilteredSampleMean := by
  intro rs s rest hs ha hn hr hi hrest
  have hstart : s = (s.goto (.scan (.filter .f1))).withInputs (conversions rs ++ rest) := by
    rw [State.goto_self hs.at_job, State.withInputs, ← hi]
  have hrun := scan_runsFilter.leads_sampled hrest hs.legal (by simp [hs.run]) ha.rdy hn hr
  exact hstart ▸ hrun

/-! ## `CAL_JOB` as a run -/

/-- The block with one more filtered sample taken and added by L4 (R511). -/
def calSampled (s : State) (rs : List Reading) : State :=
  { sampled rs s with cacc := s.cacc + BitVec.ofNat 16 (filtered rs), j := s.j + 1 }

/-- What the filtered samples of `CAL_JOB` leave alone, of what a host can see (R511). -/
structure CalFrame (s t : State) : Prop where
  cfg : t.cfg = s.cfg
  phase : t.phase = s.phase
  led : t.led = s.led
  mmask : t.mmask = s.mmask
  count : t.count = s.count
  q : t.q = s.q
  obs : t.obs = s.obs
  motionPend : t.motionPend = s.motionPend
  tickPend : t.tickPend = s.tickPend
  scanPend : t.scanPend = s.scanPend

theorem foldl_calSampled_frame (rss : List (List Reading)) (s : State) : CalFrame s (rss.foldl calSampled s) := by
  induction rss generalizing s with
  | nil => exact ⟨rfl, rfl, rfl, rfl, rfl, rfl, rfl, rfl, rfl, rfl⟩
  | cons rs rss ih => exact { ih (calSampled s rs) with }

theorem foldl_calSampled_cacc (rss : List (List Reading)) (s : State) :
    (rss.foldl calSampled s).cacc = s.cacc + BitVec.ofNat 16 (rss.map filtered).sum := by
  induction rss generalizing s with
  | nil => simp
  | cons rs rss ih => simp [ih, calSampled, BitVec.ofNat_add, BitVec.add_assoc]

theorem foldl_calSampled_tsample {rss : List (List Reading)} (h : rss ≠ []) (s : State) :
    (rss.foldl calSampled s).tsample = BitVec.ofNat 16 (filtered (rss.getLastD [])) := by
  obtain ⟨before, rs, rfl⟩ := (List.eq_nil_or_concat rss).resolve_left h
  simp [calSampled, sampled]

theorem calStep_l2Test (s : State) :
    calStep .l2Test s = s.goto (.cal (if s.j < s.cfg.calSamples then .filter .f1 else .l5)) := by
  rw [calStep, ← apply_ite (fun p => s.goto (.cal p))]

/-- A run that begins with the loop's test, which leads to another sample or to L5 (R511). -/
theorem cal_leads_test {p : CalPos} {s t : State} (h : Working (.cal .l2Test) s) (hi : Patient s.inputs)
    (hj : (if s.j < s.cfg.calSamples then .filter .f1 else .l5) = p) (h' : Leads (s.goto (.cal p)) t) : Leads s t := by
  refine h.leads_statement hi rfl ?_
  rwa [jobStep, calStep_l2Test, hj]

/-- The loop L2 takes the samples whose readings come, `CAL_SAMPLES` in all, and goes to L5 (R511). -/
theorem cal_leads_sampled {rest : List Input} (hrest : Patient rest) {rss : List (List Reading)} {s : State}
    (hl : s.cfg.legal = true) (hph : s.phase ≠ .reset) (hrdy : s.adcResRdy = false)
    (hn : s.j + rss.length = s.cfg.calSamples)
    (hr : ∀ rs ∈ rss, rs.length = s.cfg.scanSamples ∧ ∀ r ∈ rs, r.toNat ≤ maxReading s.cfg) :
    Leads ((s.goto (.cal .l2Test)).withInputs (conversions rss.flatten ++ rest))
      (((rss.foldl calSampled s).goto (.cal .l5)).withInputs rest) := by
  induction rss generalizing s with
  | nil =>
    refine cal_leads_test ⟨hl, hph, rfl⟩ hrest (if_neg (show ¬ s.j < s.cfg.calSamples from hn.not_lt)) ?_
    exact Leads.refl _
  | cons rs rss ih =>
    rw [List.length_cons] at hn
    obtain ⟨hlen, hle⟩ := hr rs List.mem_cons_self
    have hpat : Patient (conversions rss.flatten ++ rest) := patient_conversions hrest rss.flatten
    rw [List.flatten_cons, conversions_append, List.append_assoc]
    refine cal_leads_test ⟨hl, hph, rfl⟩ (patient_conversions hpat rs)
      (if_pos (show s.j < s.cfg.calSamples by omega)) ?_
    refine Leads.trans (cal_runsFilter.leads_sampled hpat hl hph hrdy hlen hle) ?_
    refine Working.leads_statement (j := .cal .l4) ⟨hl, hph, rfl⟩ hpat rfl ?_
    exact ih (s := calSampled s rs) hl hph rfl (by simp only [calSampled, sampled]; omega)
      fun x hx => hr x (List.mem_cons_of_mem rs hx)

/-- From L5 on the job seeds `TBASE`, clears the touch state, and enters RUN with no job (R511, R713). -/
theorem cal_leads_released {s : State} (hs : Working (.cal .l5) s) (hi : Patient s.inputs) :
    Leads s (released { s with
      tbase := BitVec.ofNat 16 (s.cacc.toNat / s.cfg.calSamples), tstate := false, tdeb := 0#4, phase := .run }) := by
  refine hs.leads_statement hi rfl ?_
  refine Working.leads_statement (j := .cal .l6) ⟨hs.legal, hs.past, rfl⟩ hi rfl ?_
  refine Working.leads_statement (j := .cal .l7) ⟨hs.legal, hs.past, rfl⟩ hi rfl ?_
  exact Leads.refl _

/-- The block with these filtered samples taken and added since L1 and L2 cleared CACC and `J` (R511). -/
def calibrated (rss : List (List Reading)) (s : State) : State := rss.foldl calSampled { s with cacc := 0#16, j := 0 }

theorem calibrated_frame (rss : List (List Reading)) (s : State) : CalFrame s (calibrated rss s) :=
  { foldl_calSampled_frame rss { s with cacc := 0#16, j := 0 } with }

/-- The whole job, from L1 (R511, R713). -/
theorem cal_leads_run {rest : List Input} (hrest : Patient rest) {rss : List (List Reading)} {s : State}
    (hs : Working (.cal .l1) s) (ha : AdcIdle s) (hn : rss.length = s.cfg.calSamples)
    (hr : ∀ rs ∈ rss, rs.length = s.cfg.scanSamples ∧ ∀ r ∈ rs, r.toNat ≤ maxReading s.cfg)
    (hi : s.inputs = conversions rss.flatten ++ rest) :
    Leads s ((released { calibrated rss s with
      tbase := BitVec.ofNat 16 ((calibrated rss s).cacc.toNat / (calibrated rss s).cfg.calSamples),
      tstate := false, tdeb := 0#4, phase := .run }).withInputs rest) := by
  have f := calibrated_frame rss s
  have hpat : Patient s.inputs := hi ▸ patient_conversions hrest rss.flatten
  refine hs.leads_statement hpat rfl ?_
  refine Working.leads_statement (j := .cal .l2) ⟨hs.legal, hs.past, rfl⟩ hpat rfl ?_
  have hloop := cal_leads_sampled (s := { s with cacc := 0#16, j := 0 }) hrest hs.legal hs.past ha.rdy
    ((Nat.zero_add _).trans hn) hr
  rw [← calibrated, ← hi] at hloop
  refine Leads.trans hloop ?_
  exact cal_leads_released (s := ((calibrated rss s).goto (.cal .l5)).withInputs rest)
    ⟨f.cfg ▸ hs.legal, f.phase ▸ hs.past, rfl⟩ hrest

/-- A filtered sample is at most the largest reading (R105). -/
theorem filtered_le_maxReading {c : Config} {rs : List Reading} (h : ∀ r ∈ rs, r.toNat ≤ maxReading c) :
    filtered rs ≤ maxReading c := by
  have hsum := List.sum_le_card_nsmul (rs.map fun r => r.toNat) (maxReading c) (by simpa using h)
  rw [List.length_map, smul_eq_mul] at hsum
  exact Nat.div_le_of_le_mul hsum

/-- CACC holds the sum of the filtered samples (R14, R511). -/
theorem calibrated_cacc {rss : List (List Reading)} {s : State} (h : (rss.map filtered).sum < 2 ^ 16) :
    (calibrated rss s).cacc.toNat = (rss.map filtered).sum := by
  rw [calibrated, foldl_calSampled_cacc, BitVec.zero_add, BitVec.toNat_ofNat, Nat.mod_eq_of_lt h]

/-- Settles O41: the run of the job, and what its loop leaves in CACC and `TSAMPLE` and leaves alone. -/
theorem calibrationSeedsBaseline : Obligations.CalibrationSeedsBaseline := by
  intro rss s rest hl hp hj ha hn hr hi hrest
  obtain ⟨-, -, ⟨hpos, hmax⟩, -⟩ := Config.legal_iff.1 hl
  have hne : rss ≠ [] := List.ne_nil_of_length_pos (hn ▸ hpos)
  have hfiltered : ∀ x ∈ rss.map filtered, x ≤ maxReading s.cfg := by
    simpa using fun rs hx => filtered_le_maxReading (hr rs hx).2
  have hsum := sum_lt_of_le_maxReading hl (by rwa [List.length_map, hn]) hfiltered
  have f := calibrated_frame rss s
  refine ⟨_, cal_leads_run hrest ⟨hl, by simp [hp], hj⟩ ha hn hr hi, rfl, rfl, rfl, ?_, ?_, rfl, rfl, f.led, f.mmask,
    f.count, f.q, f.obs, f.motionPend, f.tickPend, f.scanPend⟩
  · show (BitVec.ofNat 16 ((calibrated rss s).cacc.toNat / (calibrated rss s).cfg.calSamples)).toNat = seeded rss
    rw [f.cfg, calibrated_cacc hsum, ← hn, BitVec.toNat_ofNat, seeded,
      Nat.mod_eq_of_lt ((Nat.div_le_self _ _).trans_lt hsum)]
  · show (calibrated rss s).tsample.toNat = _
    have hlast : rss.getLastD [] ∈ rss := by
      rw [List.getLastD_eq_getLast?, List.getLast?_eq_some_getLast hne]
      exact List.getLast_mem hne
    rw [calibrated, foldl_calSampled_tsample hne, BitVec.toNat_ofNat, Nat.mod_eq_of_lt]
    exact (List.le_sum_of_mem (List.mem_map_of_mem hlast)).trans_lt hsum

end Sys2Proof.Machine
end

section
/-! Proofs of the statements on the scan service (44_touch.md R491, R496, R497, R500, R502, R503): the service from its
sample to its end, with and without a commit, what its statements leave alone, and who writes `TBASE`. -/

namespace Sys2Proof.Machine

open Sys2Proof.Safety

/-! ## The statements of `SCAN_SVC` that branch -/

/-- C5 keeps the flag with `ENTRY` and clears it with `EXIT` (R614). -/
theorem clearAtExit_scan (s : State) : s.clearAtExit .scan =
    { s with scanPend := s.scanPend && decide (s.cfg.flagClearAt = .entry) } := by
  cases h : s.cfg.flagClearAt <;> simp [State.clearAtExit, State.clearPending, h]

theorem scanStep_b1 (s : State) : scanStep .b1 s = s.goto (.scan (if s.tent = s.tstate then .b9 else .b2)) := by
  rw [scanStep, ite_not, ← apply_ite (fun p => s.goto (.scan p))]

theorem scanStep_b2 (s : State) :
    scanStep .b2 s = s.goto (.scan (if s.cfg.touchDebounce ≤ s.tdeb.toNat + 1 then .b3 else .b7)) := by
  simp only [scanStep, debounceReached, decide_eq_true_eq, ← apply_ite (fun p => s.goto (.scan p))]

theorem scanStep_a1 (s : State) : scanStep .a1 s = s.goto (.scan (if s.tstate then .c5 else .a2)) := by
  rw [scanStep, ← apply_ite (fun p => s.goto (.scan p))]

theorem scanStep_a2 (s : State) :
    scanStep .a2 s = s.goto (.scan (if s.tbase.toNat < s.tsample.toNat then .a3 else .a4)) := by
  rw [scanStep, ← apply_ite (fun p => s.goto (.scan p))]

theorem scanStep_a4 (s : State) :
    scanStep .a4 s = s.goto (.scan (if s.tsample.toNat < s.tbase.toNat then .a5 else .c5)) := by
  rw [scanStep, ← apply_ite (fun p => s.goto (.scan p))]

/-- The scan service runs its transfer between B5 and A1 (R491, R496). -/
theorem scan_runsTransfer : RunsTransfer (fun p => .scan (.transfer p)) (.scan .a1) where
  step p s := by
    rcases scanStep_transfer p s with ⟨p', hn, h⟩ | ⟨hn, h⟩ <;> simp [jobStep, h, hn]
  holds p s := by cases p <;> rfl

/-! ## `SCAN_SVC` from its sample on, as a run -/

/-- A value read off a register's number. -/
theorem eq_ofNat_of_toNat {x : Half} {n : Nat} (h : x.toNat = n) : x = BitVec.ofNat 16 n := by
  rw [← h, BitVec.ofNat_toNat, BitVec.setWidth_eq]

/-- While released `ADAPT` steps the baseline up at A3, down at A5, or leaves one equal to the sample (R500). -/
theorem scan_leads_stepped {s : State} (hs : Running (.scan .a2) s) (hi : Patient s.inputs) :
    Leads s ({ s with
      tbase := BitVec.ofNat 16 (adapted s.cfg.baselineShift s.tsample.toNat s.tbase.toNat) }.goto (.scan .c5)) := by
  have hat : ∀ p, Running (.scan p) (s.goto (.scan p)) := fun p => ⟨hs.legal, hs.run, rfl⟩
  refine leads_statement hs hi rfl ?_
  rw [jobStep, scanStep_a2]
  by_cases hup : s.tbase.toNat < s.tsample.toNat
  · rw [if_pos hup, ← eq_ofNat_of_toNat (baselineUp_toNat hup)]
    exact leads_statement (hat .a3) hi rfl (Leads.refl _)
  · rw [if_neg hup]
    refine leads_statement (hat .a4) hi rfl ?_
    rw [jobStep, scanStep_a4]
    by_cases hdown : s.tsample.toNat < s.tbase.toNat
    · rw [if_pos (by exact hdown), ← eq_ofNat_of_toNat (baselineDown_toNat hdown)]
      exact leads_statement (hat .a5) hi rfl (Leads.refl _)
    · have heq : s.tsample.toNat = s.tbase.toNat := by omega
      have hsame : s.tbase.toNat = adapted s.cfg.baselineShift s.tsample.toNat s.tbase.toNat := by simp [adapted, heq]
      rw [if_neg (by exact hdown), ← eq_ofNat_of_toNat hsame]
      exact Leads.refl _

/-- What `ADAPT` leaves in `TBASE`: the stepped baseline while released (R500). -/
def State.adaptedBase (s : State) : Half :=
  if s.tstate then s.tbase else BitVec.ofNat 16 (adapted s.cfg.baselineShift s.tsample.toNat s.tbase.toNat)

/-- `ADAPT`, from A1 to C5 (R500). -/
theorem scan_leads_adapted {s : State} (hs : Running (.scan .a1) s) (hi : Patient s.inputs) :
    Leads s ({ s with tbase := s.adaptedBase }.goto (.scan .c5)) := by
  refine leads_statement hs hi rfl ?_
  rw [jobStep, scanStep_a1, State.adaptedBase]
  by_cases ht : s.tstate = true
  · rw [if_pos ht, if_pos ht]
    exact Leads.refl _
  · rw [if_neg ht, if_neg ht]
    exact scan_leads_stepped ⟨hs.legal, hs.run, rfl⟩ hi

/-- From A1 on the service adapts the baseline, clears its flag at C5 if it is to, and completes (R491, R500, R614). -/
theorem scan_leads_released {s : State} (hs : Running (.scan .a1) s) (hi : Patient s.inputs) :
    Leads s (released { s with
      tbase := s.adaptedBase, scanPend := s.scanPend && decide (s.cfg.flagClearAt = .entry) }) := by
  refine Leads.trans (scan_leads_adapted hs hi) ?_
  refine leads_statement (j := .scan .c5) ⟨hs.legal, hs.run, rfl⟩ hi rfl ?_
  rw [jobStep, scanStep, clearAtExit_scan]
  exact leads_statement (j := .scan .c6) ⟨hs.legal, hs.run, rfl⟩ hi rfl (Leads.refl _)

/-- C2 classifies the sample, and B1 compares the classification with `TSTATE` (R491, R492, R496). -/
theorem scan_leads_compared {s : State} {tent : Bool} (hs : Running (.scan .c2) s) (hi : Patient s.inputs)
    (ht : tent = classify s.cfg s.tsample s.tbase) :
    Leads s ({ s with tent := tent }.goto (.scan (if tent = s.tstate then .b9 else .b2))) := by
  refine leads_statement hs hi rfl ?_
  rw [jobStep, scanStep, ← ht]
  refine leads_statement (j := .scan .b1) ⟨hs.legal, hs.run, rfl⟩ hi rfl ?_
  rw [jobStep, scanStep_b1]
  exact Leads.refl _

/-- Without a commit DEBOUNCE counts a disagreeing tick or returns to 0, and goes to A1 (R496). -/
theorem scan_leads_counted {s : State} {tent : Bool} (hs : Running (.scan .c2) s) (hi : Patient s.inputs)
    (ht : tent = classify s.cfg s.tsample s.tbase)
    (hno : tent = s.tstate ∨ s.tdeb.toNat + 1 < s.cfg.touchDebounce) :
    Leads s ({ s with
      tent := tent, tdeb := if tent = s.tstate then 0#4 else BitVec.ofNat 4 (s.tdeb.toNat + 1) }.goto (.scan .a1)) := by
  refine Leads.trans (scan_leads_compared hs hi ht) ?_
  by_cases hagree : tent = s.tstate
  · rw [if_pos hagree, if_pos hagree]
    exact leads_statement (j := .scan .b9) ⟨hs.legal, hs.run, rfl⟩ hi rfl (Leads.refl _)
  · have hshort : ¬ s.cfg.touchDebounce ≤ s.tdeb.toNat + 1 := (hno.resolve_left hagree).not_ge
    have hnext : BitVec.ofNat 4 (s.tdeb.toNat + 1) = s.tdeb + 1#4 := by bv_omega
    rw [if_neg hagree, if_neg hagree, hnext]
    refine leads_statement (j := .scan .b2) ⟨hs.legal, hs.run, rfl⟩ hi rfl ?_
    rw [jobStep, scanStep_b2, if_neg (by exact hshort)]
    exact leads_statement (j := .scan .b7) ⟨hs.legal, hs.run, rfl⟩ hi rfl (Leads.refl _)

/-- Settles O37: DEBOUNCE up to A1, and the rest of the service. -/
theorem scanServiceNoCommit : Obligations.ScanServiceNoCommit := by
  intro s tent hs hi ht hno
  exact Leads.trans (scan_leads_counted hs hi ht hno) (scan_leads_released ⟨hs.legal, hs.run, rfl⟩ hi)

/-- The block whose scan service has committed the classification `tent`, at B5 (R496). -/
def committed (tent : Bool) (s : State) : State := { s with tent := tent, tstate := tent, tdeb := 0#4 }

/-- `COMMIT_ACTION` transfers the byte of the committed classification (R497). -/
theorem commitValue_eq (s : State) : commitValue s = commitByte s.cfg.touchAction s.tstate s.led := rfl

/-- At a commit DEBOUNCE takes the classification, clears `TDEB` and goes to the transfer (R496, R497). -/
theorem scan_leads_committed {s : State} {tent : Bool} (hs : Running (.scan .c2) s) (hi : Patient s.inputs)
    (ht : tent = classify s.cfg s.tsample s.tbase) (hne : tent ≠ s.tstate)
    (hcommit : s.cfg.touchDebounce ≤ s.tdeb.toNat + 1) :
    Leads s ((committed tent s).goto (.scan (.transfer (.t1 (commitByte s.cfg.touchAction tent s.led))))) := by
  refine Leads.trans (scan_leads_compared hs hi ht) ?_
  rw [if_neg hne]
  refine leads_statement (j := .scan .b2) ⟨hs.legal, hs.run, rfl⟩ hi rfl ?_
  rw [jobStep, scanStep_b2, if_pos (by exact hcommit)]
  refine leads_statement (j := .scan .b3) ⟨hs.legal, hs.run, rfl⟩ hi rfl ?_
  refine leads_statement (j := .scan .b4) ⟨hs.legal, hs.run, rfl⟩ hi rfl ?_
  refine leads_statement (j := .scan .b5) ⟨hs.legal, hs.run, rfl⟩ hi rfl ?_
  rw [jobStep, scanStep, commitValue_eq]
  exact Leads.refl _

/-- Settles O38: the commit, its transfer, and the rest of the service. -/
theorem scanServiceCommit : Obligations.ScanServiceCommit := by
  intro s tent rest hs hq hi hr ht hne hcommit
  have hpat := patient_inputs hi
  refine Leads.trans (scan_leads_committed hs hpat ht hne hcommit) ?_
  refine Leads.trans (scan_runsTransfer.leads_sending ⟨hs.legal, hs.run, rfl⟩ hpat) ?_
  refine Leads.trans (scan_runsTransfer.leads_transferred ⟨hs.legal, hs.run, rfl⟩ hq.tc hi hr) ?_
  exact scan_leads_released ⟨hs.legal, hs.run, rfl⟩ hr

/-! ## What a scan service leaves alone -/

/-- No statement of the scan service writes the sensor's level (R491). -/
theorem scanStep_motionN (p : ScanPos) (s : State) : (scanStep p s).motionN = s.motionN := by
  cases p with
  | transfer p =>
    rcases scanStep_transfer p s with ⟨p', -, e⟩ | ⟨-, e⟩ <;> exact e ▸ (transferStep_frame p s).motionN
  | filter p =>
    rcases scanStep_filter p s with ⟨p', -, e⟩ | ⟨-, e⟩ <;> exact e ▸ (filterStep_frame p s).motionN
  | b1 | b2 | a1 | a2 | a4 => simp only [scanStep]; split <;> rfl
  | _ => simp [scanStep]

/-- Settles O42: a step is an event, which changes only `MOTION_N`, or a statement, which writes none of the three. -/
theorem scanServiceLeavesMotionState : Obligations.ScanServiceLeavesMotionState := by
  intro s t p hp hj hs
  obtain ⟨hl, -⟩ := step_cases hs
  rw [step_busy hl hp hj] at hs
  cases hs
  cases hn : s.nextEvent with
  | some x =>
    obtain ⟨e, s'⟩ := x
    obtain ⟨i, rest, -, -, -, -, rfl⟩ := State.nextEvent_some hn
    have hm : jobMove (.scan p) s = e.fire { s with inputs := rest } := by simp only [jobMove, hn]
    have f := e.fire_frame { s with inputs := rest }
    rw [hm]
    exact ⟨f.mmask, f.count, fun hturn => by cases hturn.symm.trans hn⟩
  | none =>
    have hm : jobMove (.scan p) s = scanStep p s.passMove := by simp only [jobMove, hn, jobStep]
    have w := scanStep_writes p s.passMove
    have hmask := w.mmask.resolve_right (by rintro ⟨i, hi, -⟩; cases hi)
    have hcount := w.count.resolve_right (by rintro (⟨hi | hi, -⟩ | ⟨hi, -⟩) <;> cases hi)
    rw [hm]
    exact ⟨hmask.trans s.passMove_mmask, hcount.trans s.passMove_count,
      fun _ => (scanStep_motionN p s.passMove).trans s.passMove_motionN⟩

/-! ## Who writes `TBASE` in phase RUN -/

theorem motionStep_tbase (p : MotionPos) (s : State) : (motionStep p s).tbase = s.tbase := by
  cases p with
  | transfer p =>
    rcases motionStep_transfer p s with ⟨p', -, e⟩ | ⟨-, e⟩ <;> exact e ▸ (transferStep_frame p s).tbase
  | _ => simp [motionStep]

theorem tickStep_tbase (p : TickPos) (s : State) : (tickStep p s).tbase = s.tbase := by
  cases p with
  | transfer p =>
    rcases tickStep_transfer p s with ⟨p', -, e⟩ | ⟨-, e⟩ <;> exact e ▸ (transferStep_frame p s).tbase
  | k1 | k3 | k5 => simp only [tickStep]; split <;> rfl
  | _ => simp [tickStep]

/-- Of the scan service only A3 and A5 write `TBASE` (R500). -/
theorem scanStep_tbase (p : ScanPos) (s : State) : (scanStep p s).tbase = s.tbase ∨ p = .a3 ∨ p = .a5 := by
  cases p with
  | transfer p =>
    rcases scanStep_transfer p s with ⟨p', -, e⟩ | ⟨-, e⟩ <;> exact .inl (e ▸ (transferStep_frame p s).tbase)
  | filter p =>
    rcases scanStep_filter p s with ⟨p', -, e⟩ | ⟨-, e⟩ <;> exact .inl (e ▸ (filterStep_frame p s).tbase)
  | a3 => exact .inr (.inl rfl)
  | a5 => exact .inr (.inr rfl)
  | b1 | b2 | a1 | a2 | a4 => simp only [scanStep]; split <;> exact .inl rfl
  | _ => exact .inl (by simp [scanStep])

/-- Of the jobs of phase RUN only the scan service writes `TBASE`, at A3 or A5 (R500). -/
theorem jobStep_tbase {j : Job} {s : State} (hcal : ∀ p, j ≠ .cal p) (h : (jobStep j s).tbase ≠ s.tbase) :
    j = .scan .a3 ∨ j = .scan .a5 := by
  cases j with
  | host i p => exact absurd (hostStep_frame i p s).tbase h
  | motion p => exact absurd (motionStep_tbase p s) h
  | tick p => exact absurd (tickStep_tbase p s) h
  | scan p => exact ((scanStep_tbase p s).resolve_left h).imp (congrArg _) (congrArg _)
  | cal p => exact absurd rfl (hcal p)

/-- In phase RUN a step that changes `TBASE` is the statement A3 or A5 of a scan service, and changes nothing else but
the coming events (R500). -/
theorem step_tbase {s t : State} (hcal : ∀ p, s.seq ≠ .busy (.cal p)) (hp : s.phase = .run) (hs : step s = .next t)
    (hne : t.tbase ≠ s.tbase) :
    ∃ b l, t = { s with tbase := b, inputs := l }.goto (.scan .c5) ∧
      (s.seq = .busy (.scan .a3) ∧ b = baselineUp s.cfg s.tsample s.tbase ∨
        s.seq = .busy (.scan .a5) ∧ b = baselineDown s.cfg s.tsample s.tbase) := by
  obtain ⟨-, hcase⟩ := step_cases hs
  cases hcase with
  | event e rest he hrun hn ht => exact absurd (ht ▸ (e.fire_frame { s with inputs := rest }).tbase) hne
  | reset hr ht => cases hp.symm.trans hr
  | statement j hr hj hn ht =>
    obtain ⟨l, hl⟩ := s.passMove_recast
    rw [hl] at ht
    subst ht
    rcases jobStep_tbase (s := s.recast l s.draws) (fun p hc => hcal p (hc ▸ hj)) hne with rfl | rfl
    · exact ⟨_, l, rfl, .inl ⟨hj, rfl⟩⟩
    · exact ⟨_, l, rfl, .inr ⟨hj, rfl⟩⟩
  | service src l n hc ht => exact absurd (ht ▸ rfl) hne
  | sleep hc ht => exact absurd (ht ▸ s.passMove_tbase) hne
  | nothing hr hb l n ht => exact absurd (ht ▸ rfl) hne
  | transaction i l n hc hpl ht =>
    exact absurd (ht ▸ (runJob_host_frame (s := (s.recast l n).startHost i) rfl _).tbase) hne

/-- Settles O40: A3 and A5 are reached only while released, with the sample above and below the baseline. -/
theorem baselineFrozenWhileTouched : Obligations.BaselineFrozenWhileTouched := by
  intro s t hinv hp hs hne
  have hcal : PhaseOk s .run := hp ▸ hinv.phase
  have hok := hinv.seq
  obtain ⟨b, l, rfl, hstep⟩ := step_tbase hcal hp hs hne
  have hb : s.tstate = false ∧ b.toNat = adapted s.cfg.baselineShift s.tsample.toNat s.tbase.toNat := by
    rcases hstep with ⟨hj, rfl⟩ | ⟨hj, rfl⟩ <;> rw [hj] at hok
    · obtain ⟨-, hrel, hlt⟩ : ScanOk s .a3 := hok
      exact ⟨hrel, baselineUp_toNat hlt⟩
    · obtain ⟨-, hrel, hlt⟩ : ScanOk s .a5 := hok
      exact ⟨hrel, baselineDown_toNat hlt⟩
  obtain ⟨hrel, hval⟩ := hb
  obtain ⟨hlow, hhigh⟩ := adapted_between s.cfg.baselineShift s.tsample.toNat s.tbase.toNat
  rw [← hval] at hlow hhigh
  have hmoved : b.toNat ≠ s.tbase.toNat := fun h => hne (BitVec.eq_of_toNat_eq h)
  have htoward : (s.tbase.toNat < b.toNat ∧ b.toNat ≤ s.tsample.toNat ∨
      b.toNat < s.tbase.toNat ∧ s.tsample.toNat ≤ b.toNat) ∧
      (s.tbase.toNat < s.tsample.toNat → s.tbase.toNat ≤ b.toNat) ∧
      (s.tsample.toNat < s.tbase.toNat → b.toNat ≤ s.tbase.toNat) := by omega
  exact ⟨hrel, hrel, rfl, htoward⟩

end Sys2Proof.Machine
end

section
/-! Proof of the statement on `RD.FLAGS` (45_flags_read.md R540): the bits of its byte, and its run whatever comes
meanwhile. -/

namespace Sys2Proof.Machine

open Sys2Proof.Safety

/-! ## The response of `RD.FLAGS` -/

/-- Bits 0, 1 and 2 are the motion, tick and scan flags, bit 3 is phase RUN (R540). -/
theorem flagsByte_bits3_0 (s : State) :
    s.flagsByte.getLsbD 0 = s.motionPend ∧ s.flagsByte.getLsbD 1 = s.tickPend ∧
      s.flagsByte.getLsbD 2 = s.scanPend ∧ s.flagsByte.getLsbD 3 = decide (s.phase = .run) := by
  simp only [State.flagsByte, BitVec.getLsbD_append]
  simp

theorem flagsByte_bits7_4 (s : State) : s.flagsByte.extractLsb' 4 4 = 0#4 :=
  BitVec.extractLsb'_append_eq_left

/-! ## Its one statement -/

/-- The one statement of `RD.FLAGS` responds with the flags and the phase, and clears no flag (R540, R614). -/
theorem hostStep_rdFlags (s : State) : hostStep .rdFlags .body s = (s.observe (.response s.flagsByte)).endJob := rfl

/-- Settles O23: the one statement responds with `flagsByte` as it is after the events that came before it. -/
theorem flagsRead : Obligations.FlagsRead := by
  refine fun s hs hq ha => ⟨?_, fun hi => exec_reply hs hi rfl⟩
  obtain ⟨w, hw, hrun⟩ := runJob_oneStatement (i := .rdFlags) hq ha rfl
  obtain ⟨hmotion, htick, hscan, hrunBit⟩ := flagsByte_bits3_0 w
  have hphase : w.phase = .run := hw.frame.phase.trans hs.run
  exact ⟨(w.observe (.response w.flagsByte)).endJob, w.flagsByte, by rw [exec_taken hs, hrun, hostStep_rdFlags], rfl,
    hw.mmask, congrArg (· ++ [Obs.response w.flagsByte]) hw.obs, { hw.frame with }, { hw.link with },
    hmotion, htick, hscan, hrunBit.trans (decide_eq_true hphase), flagsByte_bits7_4 w⟩

end Sys2Proof.Machine
end

section
/-! Proofs of the statements on the dispatch step, the pending flags and the jobs (60_exceptions.md R610 to R652): the pin,
the candidates, the dispatch step's choice, one job at a time, who clears a flag, and sleep. -/

namespace Sys2Proof

/-- A number that the table reads as an instruction is the word that decodes to it (R303). -/
theorem decode_of_decodeTableWord {nbits w : Nat} {i : Instr} (h : decodeTableWord nbits w = some i) :
    decode (BitVec.ofNat 13 w) = .instr i := by
  unfold decodeTableWord at h
  split at h
  · split at h
    · next hd => exact hd.trans (congrArg _ (Option.some.inj h))
    · cases h
  · cases h

end Sys2Proof

namespace Sys2Proof.Machine

open Sys2Proof.Safety

/-! ## The pin -/

/-- Past the reset step the phase is CAL or RUN (R710). -/
theorem phase_ne_reset (p : Phase) : decide (p ≠ .reset) = (p == .cal || p == .run) := by
  cases p <;> rfl

/-- Settles O26: the event's move, enabled in every state. -/
theorem pinEffect : Obligations.PinEffect := by
  intro l s rest hl hi
  rw [step, plan, if_pos hl, State.nextEvent_atOnce hi rfl, ← phase_ne_reset]
  exact congrArg Host.Outcome.next (pinEvent_eq l (s.withInputs rest))

/-! ## The candidates -/

/-- With `ANY` the candidates are the pending services and the offered transaction (R624). -/
theorem mem_candidates_any {s : State} (h : s.cfg.priority = .any) :
    (∀ src, .service src ∈ s.candidates ↔ s.pending src = true) ∧
      (.host ∈ s.candidates ↔ s.offered.isSome = true) := by
  simp only [State.candidates, h, State.hostCandidate, State.pendingSources]
  constructor
  · intro src
    cases src <;> simp
  · simp

/-- With a total order the candidates are the highest pending source, or the offered transaction (R624). -/
theorem candidates_order {s : State} {x y z : Source} (h : s.cfg.priority = .order x y z) :
    s.candidates =
      if s.pending x then [.service x] else if s.pending y then [.service y] else if s.pending z then [.service z]
      else s.hostCandidate := by
  simp only [State.candidates, h, State.ordered]
  split_ifs <;> simp [*]

/-- Settles O44: the two kinds of `PRIORITY`, and that a choice waits until it is a candidate. -/
theorem priorityChoosesCandidates : Obligations.PriorityChoosesCandidates := by
  refine ⟨fun s => mem_candidates_any, fun s x y z => candidates_order, ?_⟩
  intro s p rest hp hi
  exact State.nextEvent_not_enabled hi (by simp [Event.enabled, atOnce, hp])

/-- An offered transaction is a candidate with `ANY`, and with an order when no flag is pending (R624). -/
theorem host_mem_candidates {s : State} (ho : s.offered.isSome = true)
    (h : s.cfg.priority = .any ∨ ∀ src, s.pending src = false) : .host ∈ s.candidates := by
  cases hp : s.cfg.priority with
  | any => exact (mem_candidates_any hp).2.2 ho
  | order x y z =>
    have hf := h.resolve_left (by simp [hp])
    simp [candidates_order hp, hf, State.hostCandidate, ho]

/-- The host is a candidate only with a transaction offered (R620). -/
theorem offered_of_host_mem {s : State} (h : .host ∈ s.candidates) : s.offered.isSome = true := by
  cases hp : s.cfg.priority with
  | any => exact (mem_candidates_any hp).2.1 h
  | order x y z =>
    rw [candidates_order hp] at h
    split_ifs at h with hx hy hz
    · simp at h
    · simp at h
    · simp at h
    · simpa [State.hostCandidate] using h

/-! ## A dispatch with one choice -/

/-- Settles O43: both ways the dispatch step takes the service. -/
theorem dispatchStartsService : Obligations.DispatchStartsService := by
  refine fun s src hs => ⟨fun hc ht => ?_, fun rest hc hi => ?_⟩
  · rw [step, plan_onlyCandidate hs hc ht]
    rfl
  · rw [step, plan_prescribed hs hc hi]
    rfl

/-- Taking a transaction of the table executes it (R620). -/
theorem dispatch_instr {s : State} {t : Txn} {i : Instr} (ho : s.offered = some t) (hd : decode t = .instr i) :
    dispatch .host s = .execute i s := by
  simp [dispatch, ho, hd]

/-- The sequencer executes the transaction it is told to take (R620; log entries 2, 5). -/
theorem step_prescribed_host {s : State} {t : Txn} {i : Instr} {rest : List Input} (hs : Ready s)
    (ho : s.offered = some t) (hd : decode t = .instr i) (hc : .host ∈ s.candidates)
    (hi : s.inputs = atOnce (.run .host) :: rest) : step s = exec i (s.withInputs rest) := by
  rw [step, plan_prescribed hs hc hi, dispatch_instr (s := s.withInputs rest) ho hd]

/-- In the state with a word placed the host is a candidate: an order finds no flag pending (log entry 15). -/
theorem host_mem_placeTransaction (s : State) (w : Nat) : .host ∈ (placeTransaction s w).candidates := by
  refine host_mem_candidates rfl ?_
  by_cases h : s.cfg.priority = .any
  · exact .inl h
  · exact .inr fun src => by cases src <;> simp [State.pending, placeTransaction, h]

/-- Settles O6: the only candidate, the prescribed choice, and the placed word, whose choice is prescribed. -/
theorem stepRunsTransaction : Obligations.StepRunsTransaction := by
  refine ⟨fun s t i hs ho hd hc ht => ?_, fun s t i rest => step_prescribed_host, fun s w i hl hw => ?_⟩
  · rw [step, plan_onlyCandidate hs hc ht, dispatch_instr (s.passMove_offered.trans ho) hd]
  · exact step_prescribed_host ⟨hl, rfl, rfl⟩ rfl (decode_of_decodeTableWord hw) (host_mem_placeTransaction s w) rfl

/-! ## The dispatch step's choice -/

/-- When no event is due the sequencer that can take a job makes the dispatch step's move (R620). -/
theorem plan_dispatchMove {s : State} (hs : Ready s) (ht : SequencerTurn s) : plan s = dispatchMove s.passMove := by
  rw [plan, if_pos hs.legal, ht]
  rcases State.isBusy_false hs.free with hq | hq <;> simp [sequencerMove, hs.run, hq]

theorem ready_passMove {s : State} (hs : Ready s) : Ready s.passMove := by
  obtain ⟨l, hl⟩ := s.passMove_recast
  exact hl ▸ ⟨hs.legal, hs.run, hs.free⟩

theorem candidates_passMove (s : State) : s.passMove.candidates = s.candidates := by
  obtain ⟨l, hl⟩ := s.passMove_recast
  rw [hl, State.candidates_recast]

/-- The state with the sequencer elsewhere (R140). -/
def State.setSeq (q : Seq) (s : State) : State := { s with seq := q }

@[simp] theorem State.setSeq_seq (q : Seq) (s : State) : (s.setSeq q).seq = q := rfl
@[simp] theorem State.setSeq_inputs (q : Seq) (s : State) : (s.setSeq q).inputs = s.inputs := rfl
@[simp] theorem State.setSeq_candidates (q : Seq) (s : State) : (s.setSeq q).candidates = s.candidates := rfl

/-- The dispatch step takes a candidate, the same whether from IDLE or from SLEEP, and counts the free choice if there are
several (R620, R624, R652; log entry 4). -/
theorem dispatchMove_takes {s : State} (h : s.candidates ≠ []) :
    ∃ p ∈ s.candidates, ∃ n, (2 ≤ s.candidates.length → n = s.draws + 1) ∧
      ∀ q : Seq, dispatchMove (s.setSeq q) = dispatch p ((s.recast s.inputs n).setSeq q) := by
  cases hc : s.candidates with
  | nil => exact absurd hc h
  | cons p ps =>
    cases ps with
    | nil =>
      refine ⟨p, by simp, s.draws, by simp, fun q => ?_⟩
      simp only [dispatchMove, State.setSeq_candidates, hc]
      rfl
    | cons p' ps =>
      have hlt : Config.freePick s.draws % (ps.length + 2) < (p :: p' :: ps).length := Nat.mod_lt _ (by simp)
      refine ⟨(p :: p' :: ps)[Config.freePick s.draws % (ps.length + 2)], List.getElem_mem hlt, s.draws + 1,
        fun _ => rfl, fun q => ?_⟩
      rw [← List.getD_eq_getElem _ p hlt]
      simp only [dispatchMove, State.setSeq_candidates, hc]
      rfl

/-- Settles O45: the candidate that the dispatch step takes among several. -/
theorem freeChoiceIsACandidate : Obligations.FreeChoiceIsACandidate := by
  intro s hs ht hlen
  rw [← candidates_passMove s] at hlen ⊢
  obtain ⟨p, hp, n, hn, hd⟩ := dispatchMove_takes (s := s.passMove) (List.ne_nil_of_length_pos (by omega))
  obtain rfl := hn hlen
  rw [s.passMove_draws] at hd
  exact ⟨p, hp, (plan_dispatchMove hs ht).trans (hd s.passMove.seq)⟩

/-! ## Sleep -/

/-- A step's outcome from what its next move is (R9, R10). -/
def Plan.outcome : Plan → Host.Outcome State Fault Refusal
  | .go s => .next s
  | .execute i s => exec i s
  | .refuse r => .refused r

theorem step_eq_outcome (s : State) : step s = (plan s).outcome := by
  unfold step Plan.outcome
  cases plan s <;> rfl

theorem ready_setSeq_idle {s : State} (hs : Ready s) : Ready (s.setSeq .idle) := ⟨hs.legal, hs.run, rfl⟩

/-- A transaction starts from SLEEP as from IDLE: its job replaces either (R652). -/
theorem exec_setSeq_idle {s : State} (hs : Ready s) (i : Instr) : exec i (s.setSeq .idle) = exec i s := by
  rw [exec_taken hs, exec_taken (ready_setSeq_idle hs)]
  rfl

/-- A candidate is taken from SLEEP as from IDLE (R652). -/
theorem dispatch_setSeq_idle {s : State} {p : Pick} (hs : Ready s) (hp : p ∈ s.candidates) :
    (dispatch p (s.setSeq .idle)).outcome = (dispatch p s).outcome := by
  cases p with
  | service src => rfl
  | host =>
    obtain ⟨t, ho⟩ := Option.isSome_iff_exists.1 (offered_of_host_mem hp)
    cases hd : decode t with
    | instr i =>
      rw [dispatch_instr ho hd, dispatch_instr (s := s.setSeq .idle) ho hd]
      exact exec_setSeq_idle hs i
    | reserved w a => rw [dispatch_reserved ho hd, dispatch_reserved (s := s.setSeq .idle) ho hd]

theorem passMove_setSeq (s : State) (q : Seq) : (s.setSeq q).passMove = s.passMove.setSeq q := by
  unfold State.passMove
  rw [s.setSeq_inputs]
  split <;> rfl

/-- In SLEEP the same event is due as in IDLE (log entry 2). -/
theorem sequencerTurn_setSeq_idle {s : State} (hq : s.seq = .sleep) (ht : SequencerTurn s) :
    SequencerTurn (s.setSeq .idle) := by
  have hcan : (s.setSeq .idle).canTake = s.canTake := by
    rw [State.canTake, State.canTake, State.isBusy, State.isBusy, hq]; rfl
  have hhost : (s.setSeq .idle).hostBusy = s.hostBusy := by simp [State.hostBusy, hq]
  have hrest : (s.setSeq .idle).atRest = s.atRest := by rw [State.atRest, State.atRest, hq]; rfl
  have hdue : ∀ d : Due, d.now (s.setSeq .idle) = d.now s := by
    intro d
    cases d with
    | atRest => exact hrest
    | after n => rfl
  have henabled : ∀ e : Event, e.enabled (s.setSeq .idle) = e.enabled s := by
    intro e
    cases e with
    | offer t => exact congrArg (s.offered.isNone && !·) hhost
    | run p => exact congrArg (· && s.candidates.contains p) hcan
    | _ => rfl
  unfold SequencerTurn State.nextEvent at ht ⊢
  simp only [hdue, henabled, State.setSeq_inputs]
  cases hi : s.inputs with
  | nil => rfl
  | cons i rest => simpa [hi] using ht

/-- Settles O51: with no candidate the dispatch step only sleeps, and a candidate is taken as from IDLE. -/
theorem sleepIsUnobservable : Obligations.SleepIsUnobservable := by
  constructor
  · intro s hs ht hc
    rw [step, plan_dispatchMove hs ht, dispatchMove, candidates_passMove, hc]
  · intro s hl hrun hq ht hc
    have hs : Ready s := ⟨hl, hrun, by simp [State.isBusy, hq]⟩
    rw [← candidates_passMove] at hc
    obtain ⟨p, hp, n, -, hd⟩ := dispatchMove_takes hc
    have hsleep : plan s = dispatch p (s.passMove.recast s.passMove.inputs n) :=
      (plan_dispatchMove hs ht).trans (hd s.passMove.seq)
    have hidle : plan (s.setSeq .idle) = dispatch p ((s.passMove.recast s.passMove.inputs n).setSeq .idle) := by
      rw [plan_dispatchMove (ready_setSeq_idle hs) (sequencerTurn_setSeq_idle hq ht), passMove_setSeq, hd]
    have hs' := ready_passMove hs
    show step s = step (s.setSeq .idle)
    rw [step_eq_outcome, step_eq_outcome, hsleep, hidle]
    exact (dispatch_setSeq_idle (s := s.passMove.recast s.passMove.inputs n) { hs' with } hp).symm

/-! ## One job at a time -/

theorem sameJob_refl (j : Job) : SameJob j j := by
  cases j with
  | host i p => rfl
  | _ => trivial

/-- Settles O46: an event leaves the job where it is, and a statement leaves it in progress or ends it. -/
theorem oneJobAtATime : Obligations.OneJobAtATime := by
  intro s t j hp hj hs
  obtain ⟨hl, -⟩ := step_cases hs
  rw [step_busy hl hp hj] at hs
  cases hs
  rcases jobMove_cases hj with ⟨e, rest, -, -, hm⟩ | ⟨-, hm⟩ <;> rw [hm]
  · exact .inr ⟨j, (e.fire_frame { s with inputs := rest }).seq.trans hj, sameJob_refl j⟩
  · exact (jobStep_goes j s.passMove).job

/-! ## Who clears a flag -/

/-- The statement at which a source's service clears its flag (R614). -/
def clearStatement : FlagClearAt → Source → Job
  | .entry => serviceEntry
  | .exit => exitClear

theorem atClearStatement_iff {s : State} {src : Source} :
    s.seq = .busy (clearStatement s.cfg.flagClearAt src) ↔
      (s.cfg.flagClearAt = .entry ∧ s.seq = .busy (serviceEntry src)) ∨
      (s.cfg.flagClearAt = .exit ∧ s.seq = .busy (exitClear src)) := by
  cases h : s.cfg.flagClearAt <;> simp [clearStatement]

/-- A source's flag is the same in two states whose flag registers are (R120). -/
theorem State.pending_congr {s t : State} (src : Source) (hm : t.motionPend = s.motionPend := by rfl)
    (ht : t.tickPend = s.tickPend := by rfl) (hs : t.scanPend = s.scanPend := by rfl) :
    t.pending src = s.pending src := by
  cases src with
  | motion => exact hm
  | tick => exact ht
  | scan => exact hs

theorem State.pending_passMove (s : State) (src : Source) : s.passMove.pending src = s.pending src :=
  State.pending_congr src s.passMove_motionPend s.passMove_tickPend s.passMove_scanPend

theorem transferStep_pending (p : TransferPos) (s : State) (src : Source) :
    (transferStep p s).2.pending src = s.pending src :=
  have f := transferStep_frame p s
  State.pending_congr src f.motionPend f.tickPend f.scanPend

theorem filterStep_pending (p : FilterPos) (s : State) (src : Source) :
    (filterStep p s).2.pending src = s.pending src :=
  have f := filterStep_frame p s
  State.pending_congr src f.motionPend f.tickPend f.scanPend

/-- An event clears no flag (R121). -/
theorem Event.fire_pending {e : Event} {s : State} {src : Source} (h : s.pending src = true) :
    (e.fire s).pending src = true := by
  have f := e.fire_frame s
  cases src with
  | motion => exact f.motionPend h
  | tick => exact f.tickPend h
  | scan => exact f.scanPend h

/-- M0, K0 and C0 touch no other source's flag, and with `EXIT` none (R614). -/
theorem clearAtEntry_pending {x src : Source} {s : State}
    (h : serviceEntry x ≠ clearStatement s.cfg.flagClearAt src) :
    (s.clearAtEntry x).pending src = s.pending src := by
  cases hc : s.cfg.flagClearAt with
  | entry =>
    rw [hc] at h
    simp only [State.clearAtEntry, hc]
    exact State.pending_clearPending_of_ne (fun he => h (congrArg _ he.symm)) s
  | exit => simp only [State.clearAtEntry, hc]

/-- M3, K7 and C5 touch no other source's flag, and with `ENTRY` none (R614). -/
theorem clearAtExit_pending {x src : Source} {s : State}
    (h : exitClear x ≠ clearStatement s.cfg.flagClearAt src) :
    (s.clearAtExit x).pending src = s.pending src := by
  cases hc : s.cfg.flagClearAt with
  | entry => simp only [State.clearAtExit, hc]
  | exit =>
    rw [hc] at h
    simp only [State.clearAtExit, hc]
    exact State.pending_clearPending_of_ne (fun he => h (congrArg _ he.symm)) s

/-- No statement of a host transaction touches a flag (R614). -/
theorem hostStep_pending (i : Instr) (p : HostPos) (s : State) (src : Source) :
    (hostStep i p s).pending src = s.pending src := by
  cases p with
  | body => simp only [hostStep]; split <;> exact State.pending_congr src
  | transfer p =>
    have f := transferStep_pending p s src
    rcases hostStep_transfer i p s with ⟨p', -, e⟩ | ⟨-, e⟩ <;> exact e ▸ f

theorem motionStep_pending {p : MotionPos} {s : State} {src : Source}
    (h : .motion p ≠ clearStatement s.cfg.flagClearAt src) : (motionStep p s).pending src = s.pending src := by
  cases p with
  | transfer p =>
    have f := transferStep_pending p s src
    rcases motionStep_transfer p s with ⟨p', -, e⟩ | ⟨-, e⟩ <;> exact e ▸ f
  | m0 => exact clearAtEntry_pending (x := .motion) h
  | m3 => exact clearAtExit_pending (x := .motion) h
  | m1 | m2 | m4 => exact State.pending_congr src

theorem tickStep_pending {p : TickPos} {s : State} {src : Source}
    (h : .tick p ≠ clearStatement s.cfg.flagClearAt src) : (tickStep p s).pending src = s.pending src := by
  cases p with
  | transfer p =>
    have f := transferStep_pending p s src
    rcases tickStep_transfer p s with ⟨p', -, e⟩ | ⟨-, e⟩ <;> exact e ▸ f
  | k0 => exact clearAtEntry_pending (x := .tick) h
  | k7 => exact clearAtExit_pending (x := .tick) h
  | k1 | k3 | k5 => simp only [tickStep]; split <;> exact State.pending_congr src
  | k2 | k4 | k6 | k8 => exact State.pending_congr src

theorem scanStep_pending {p : ScanPos} {s : State} {src : Source}
    (h : .scan p ≠ clearStatement s.cfg.flagClearAt src) : (scanStep p s).pending src = s.pending src := by
  cases p with
  | transfer p =>
    have f := transferStep_pending p s src
    rcases scanStep_transfer p s with ⟨p', -, e⟩ | ⟨-, e⟩ <;> exact e ▸ f
  | filter p =>
    have f := filterStep_pending p s src
    rcases scanStep_filter p s with ⟨p', -, e⟩ | ⟨-, e⟩ <;> exact e ▸ f
  | c0 => exact clearAtEntry_pending (x := .scan) h
  | c5 => exact clearAtExit_pending (x := .scan) h
  | b1 | b2 | a1 | a2 | a4 => simp only [scanStep]; split <;> exact State.pending_congr src
  | _ => exact State.pending_congr src

/-- No statement of `CAL_JOB` touches a flag (R614). -/
theorem calStep_pending (p : CalPos) (s : State) (src : Source) : (calStep p s).pending src = s.pending src := by
  cases p with
  | filter p =>
    have f := filterStep_pending p s src
    rcases calStep_filter p s with ⟨p', -, e⟩ | ⟨-, e⟩ <;> exact e ▸ f
  | l2Test => simp only [calStep]; split <;> exact State.pending_congr src
  | _ => exact State.pending_congr src

/-- Only a source's own clearing statement touches its flag (R614). -/
theorem jobStep_pending {j : Job} {s : State} {src : Source} (h : j ≠ clearStatement s.cfg.flagClearAt src) :
    (jobStep j s).pending src = s.pending src := by
  cases j with
  | host i p => exact hostStep_pending i p s src
  | motion p => exact motionStep_pending h
  | tick p => exact tickStep_pending h
  | scan p => exact scanStep_pending h
  | cal p => exact calStep_pending p s src

/-- The clearing statement clears its source's flag (R614). -/
theorem jobStep_clears {s : State} {src : Source} :
    (jobStep (clearStatement s.cfg.flagClearAt src) s).pending src = false := by
  have hentry : (jobStep (serviceEntry src) s).pending src = (s.clearAtEntry src).pending src := by
    cases src <;> rfl
  have hexit : (jobStep (exitClear src) s).pending src = (s.clearAtExit src).pending src := by
    cases src <;> rfl
  cases hc : s.cfg.flagClearAt with
  | entry => simp [clearStatement, hentry, State.clearAtEntry, hc]
  | exit => simp [clearStatement, hexit, State.clearAtExit, hc]

/-- A transaction's run clears no flag (R614). -/
theorem runJob_host_pending {i : Instr} {s : State} {src : Source} (h : s.pending src = true) (n : Nat) :
    (runJob n (s.startHost i)).pending src = true := by
  refine runJob_host_induct (i := i) (P := fun u => u.pending src = true) (fun u l hu => ?_)
    (fun u e => Event.fire_pending) (fun u p _ hu => ?_) (s := s.startHost i) (p := .body) rfl ?_ n
  · exact (State.pending_congr src).trans hu
  · exact (hostStep_pending i p u src).trans hu
  · exact (State.pending_congr src).trans h

/-- A step past the reset step keeps a pending flag unless it is the clearing statement of the flag's service (R614). -/
theorem step_pending {s t : State} {src : Source} (hp : s.phase ≠ .reset) (hs : step s = .next t)
    (h : s.pending src = true) (hne : s.seq ≠ .busy (clearStatement s.cfg.flagClearAt src)) :
    t.pending src = true := by
  obtain ⟨-, hcase⟩ := step_cases hs
  have hrecast : ∀ l n, (s.recast l n).pending src = true := fun _ _ => (State.pending_congr src).trans h
  cases hcase with
  | event e rest he hrun hn ht => exact ht ▸ Event.fire_pending (hrecast rest s.draws)
  | reset hr ht => exact absurd hr hp
  | statement j hr hj hn ht =>
    have hj' : j ≠ clearStatement s.passMove.cfg.flagClearAt src := by
      rintro rfl
      exact hne (s.passMove_cfg ▸ hj)
    rw [ht, jobStep_pending hj', s.pending_passMove, h]
  | service src' l n hc ht => exact ht ▸ (State.pending_congr src).trans h
  | sleep hc ht => exact ht ▸ (State.pending_congr src).trans ((s.pending_passMove src).trans h)
  | nothing hr hb l n ht => exact ht ▸ hrecast l n
  | transaction i l n hc hpl ht => exact ht ▸ runJob_host_pending (hrecast l n) _

/-- Settles O47: a step keeps a flag or is its clearing statement, and that statement clears it. -/
theorem flagClearedOnlyByItsService : Obligations.FlagClearedOnlyByItsService := by
  refine ⟨fun s t src hp hs h ht => atClearStatement_iff.1 ?_, fun s src hl hp hturn hat => ?_⟩
  · by_contra hne
    exact absurd (step_pending hp hs h hne) (by simp [ht])
  · have hj := atClearStatement_iff.2 hat
    refine ⟨_, step_busy hl hp hj, ?_⟩
    have hn : s.nextEvent = none := hturn
    rw [jobMove, hn, ← s.passMove_cfg]
    exact jobStep_clears

end Sys2Proof.Machine
end

section
/-! Proofs of the statements on reset and the hazards (70_reset_and_hazards.md R700 to R730): the order of the phases, a
transaction that waits, who sets the flags of ticks and scans, the power-up, the boot to RUN, and a torn read. -/

namespace Sys2Proof.Machine

open Sys2Proof.Safety

/-! ## A statement, the offered transaction and the phase -/

/-- A statement of the job `j`, from `s` to `t`, leaves the offered transaction, and the phase unless it is L7 (R710,
R715). -/
structure StatementStays (j : Job) (s t : State) : Prop where
  offered : t.offered = s.offered
  phase : t.phase = s.phase ∨ j = .cal .l7

theorem StatementStays.of_eq {j : Job} {s t : State} (ho : t.offered = s.offered) (hp : t.phase = s.phase) :
    StatementStays j s t := ⟨ho, .inl hp⟩

theorem transferStep_stays (j : Job) (p : TransferPos) (s : State) : StatementStays j s (transferStep p s).2 :=
  have f := transferStep_frame p s
  .of_eq f.offered f.phase

theorem filterStep_stays (j : Job) (p : FilterPos) (s : State) : StatementStays j s (filterStep p s).2 :=
  have f := filterStep_frame p s
  .of_eq f.offered f.phase

/-- Where the sequencer goes next, and what is observed, is neither. -/
theorem StatementStays.goto {j : Job} {s t : State} (h : StatementStays j s t) (j' : Job) :
    StatementStays j s (t.goto j') := ⟨h.offered, h.phase⟩

theorem StatementStays.complete {j : Job} {s t : State} (h : StatementStays j s t) (o : Obs) :
    StatementStays j s (t.observe o).endJob := ⟨h.offered, h.phase⟩

theorem hostStep_stays (i : Instr) (p : HostPos) (s : State) : StatementStays (.host i p) s (hostStep i p s) := by
  cases p with
  | body => simp only [hostStep]; split <;> exact .of_eq rfl rfl
  | transfer p =>
    have f := transferStep_stays (.host i (.transfer p)) p s
    rcases hostStep_transfer i p s with ⟨p', -, e⟩ | ⟨-, e⟩
    · exact e ▸ f.goto _
    · exact e ▸ f.complete _

theorem motionStep_stays (p : MotionPos) (s : State) : StatementStays (.motion p) s (motionStep p s) := by
  cases p with
  | transfer p =>
    rcases motionStep_transfer p s with ⟨p', -, e⟩ | ⟨-, e⟩ <;> exact e ▸ (transferStep_stays _ p s).goto _
  | _ => exact .of_eq (by simp [motionStep]) (by simp [motionStep])

theorem tickStep_stays (p : TickPos) (s : State) : StatementStays (.tick p) s (tickStep p s) := by
  cases p with
  | transfer p =>
    rcases tickStep_transfer p s with ⟨p', -, e⟩ | ⟨-, e⟩ <;> exact e ▸ (transferStep_stays _ p s).goto _
  | k1 | k3 | k5 => simp only [tickStep]; split <;> exact .of_eq rfl rfl
  | _ => exact .of_eq (by simp [tickStep]) (by simp [tickStep])

theorem scanStep_stays (p : ScanPos) (s : State) : StatementStays (.scan p) s (scanStep p s) := by
  cases p with
  | transfer p =>
    rcases scanStep_transfer p s with ⟨p', -, e⟩ | ⟨-, e⟩ <;> exact e ▸ (transferStep_stays _ p s).goto _
  | filter p =>
    rcases scanStep_filter p s with ⟨p', -, e⟩ | ⟨-, e⟩ <;> exact e ▸ (filterStep_stays _ p s).goto _
  | b1 | b2 | a1 | a2 | a4 => simp only [scanStep]; split <;> exact .of_eq rfl rfl
  | _ => exact .of_eq (by simp [scanStep]) (by simp [scanStep])

theorem calStep_stays (p : CalPos) (s : State) : StatementStays (.cal p) s (calStep p s) := by
  cases p with
  | filter p =>
    rcases calStep_filter p s with ⟨p', -, e⟩ | ⟨-, e⟩ <;> exact e ▸ (filterStep_stays _ p s).goto _
  | l2Test => exact calStep_l2Test s ▸ .of_eq rfl rfl
  | l7 => exact ⟨rfl, .inr rfl⟩
  | _ => exact .of_eq rfl rfl

theorem jobStep_stays (j : Job) (s : State) : StatementStays j s (jobStep j s) := by
  cases j with
  | host i p => exact hostStep_stays i p s
  | motion p => exact motionStep_stays p s
  | tick p => exact tickStep_stays p s
  | scan p => exact scanStep_stays p s
  | cal p => exact calStep_stays p s

/-! ## The phases in order -/

/-- What a step can do with the phase (R710). -/
inductive StepPhase (s t : State) : Prop where
  /-- The reset step goes to CAL with `CAL_JOB` at L1 (R711). -/
  | reset (hp : s.phase = .reset) (ht : t.phase = .cal) (hj : t.seq = .busy (.cal .l1))
  /-- Statement L7 enters RUN and completes the job (R713). -/
  | l7 (hp : s.phase ≠ .reset) (hj : s.seq = .busy (.cal .l7)) (ht : t.phase = .run) (hi : t.seq = .idle)
  /-- Every other step leaves the phase. -/
  | same (h : t.phase = s.phase)

theorem step_phase {s t : State} (hs : step s = .next t) : StepPhase s t := by
  obtain ⟨-, hcase⟩ := step_cases hs
  cases hcase with
  | event e rest he hrun hn ht => exact .same (ht ▸ (e.fire_frame { s with inputs := rest }).phase)
  | reset hp ht => subst ht; exact .reset hp rfl rfl
  | statement j hp hj hn ht =>
    rcases (jobStep_stays j s.passMove).phase with h | rfl
    · exact .same (ht ▸ h.trans s.passMove_phase)
    · subst ht; exact .l7 hp hj rfl rfl
  | service src l n hc ht => exact .same (ht ▸ rfl)
  | sleep hc ht => exact .same (ht ▸ s.passMove_phase)
  | nothing hp hb l n ht => exact .same (ht ▸ rfl)
  | transaction i l n hc hpl ht =>
    exact .same (ht ▸ (runJob_host_frame (s := (s.recast l n).startHost i) rfl _).phase)

/-- No phase comes after RUN (R710). -/
theorem phaseRank_le_run (p : Phase) : phaseRank p ≤ phaseRank .run := by
  cases p <;> decide

/-- Settles O50: the reset step and L7 are the only steps that change the phase, and each goes to the next. -/
theorem phaseNeverGoesBack : Obligations.PhaseNeverGoesBack := by
  intro s t hs
  cases step_phase hs with
  | reset hp ht hj =>
    refine ⟨?_, fun _ _ => ⟨ht, hj⟩, fun hcal => ?_⟩
    · rw [hp]; exact Nat.zero_le _
    · cases hp.symm.trans hcal
  | l7 hp hj ht hi => exact ⟨ht ▸ phaseRank_le_run s.phase, fun h => absurd h hp, fun _ _ => ⟨hj, ht, hi⟩⟩
  | same h => exact ⟨h ▸ le_rfl, fun _ hne => absurd h hne, fun _ hne => absurd h hne⟩

/-! ## A transaction that waits -/

/-- Before phase RUN no step takes the offered transaction or replaces it (R655, R715). -/
theorem step_offered {s u : State} {t : Txn} (hp : s.phase ≠ .run) (ho : s.offered = some t)
    (hs : step s = .next u) : u.offered = some t := by
  have hbusy : s.canTake ≠ true := fun hc => hp (State.canTake_iff.1 hc).1
  obtain ⟨-, hcase⟩ := step_cases hs
  cases hcase with
  | event e rest he hrun hn hu =>
    have hoffer : ∀ t', e ≠ .offer t' := by
      rintro t' rfl
      simp [Event.enabled, ho] at he
    exact hu ▸ (Event.fire_offered { s with inputs := rest } hoffer).trans ho
  | reset hr hu => exact hu ▸ s.passMove_offered.trans ho
  | statement j hr hj hn hu =>
    exact hu ▸ (jobStep_stays j s.passMove).offered.trans (s.passMove_offered.trans ho)
  | service src l n hc hu => exact absurd hc hbusy
  | sleep hc hu => exact absurd hc hbusy
  | nothing hr hb l n hu => exact hu ▸ ho
  | transaction i l n hc hpl hu => exact absurd hc hbusy

/-- Settles O9: the steps outside RUN, the dispatch step's only candidate, and the transaction that cannot be taken. -/
theorem transactionWaits : Obligations.TransactionWaits := by
  refine ⟨fun s u t => step_offered, stepRunsTransaction.1, fun i s hl hwait => ?_⟩
  have hc : s.canTake = false := by
    rw [← Bool.not_eq_true, State.canTake_iff]
    rintro ⟨hrun, hfree⟩
    rcases hwait with hp | hb
    · exact hp hrun
    · cases hb.symm.trans hfree
  rw [exec_eq_hostJob, hostJob_waits hl hc]

/-! ## The sources of ticks -/

/-- Only `TICK` sets `TICK_PEND` (R120, R460). -/
theorem Event.fire_tickPend {e : Event} (s : State) (h : e ≠ .tick) : (e.fire s).tickPend = s.tickPend := by
  cases e with
  | tick => exact absurd rfl h
  | pin l => simp [Event.fire, pinEvent_eq]
  | _ => rfl

/-- Only `SCAN` sets `SCAN_PEND` (R120, R480). -/
theorem Event.fire_scanPend {e : Event} (s : State) (h : e ≠ .scan) : (e.fire s).scanPend = s.scanPend := by
  cases e with
  | scan => exact absurd rfl h
  | pin l => simp [Event.fire, pinEvent_eq]
  | _ => rfl

/-- No statement of a job sets a flag (R121, R614). -/
theorem pending_of_jobStep {j : Job} {s : State} {src : Source} (h : (jobStep j s).pending src = true) :
    s.pending src = true := by
  by_cases hj : j = clearStatement s.cfg.flagClearAt src
  · rw [hj, jobStep_clears] at h
    cases h
  · rwa [jobStep_pending hj] at h

/-- Outside RUN no step sets the flag of the ticks or of the scans (R720). -/
theorem pending_of_step {s t : State} {src : Source} (hsrc : src ≠ .motion) (hp : s.phase ≠ .run)
    (hs : step s = .next t) (h : t.pending src = true) : s.pending src = true := by
  have hbusy : s.canTake ≠ true := fun hc => hp (State.canTake_iff.1 hc).1
  obtain ⟨-, hcase⟩ := step_cases hs
  cases hcase with
  | event e rest he hrun hn ht =>
    subst ht
    cases src with
    | motion => exact absurd rfl hsrc
    | tick =>
      have hne : e ≠ .tick := by rintro rfl; exact hp (of_decide_eq_true he)
      exact (Event.fire_tickPend { s with inputs := rest } hne).symm.trans h
    | scan =>
      have hne : e ≠ .scan := by rintro rfl; exact hp (of_decide_eq_true he)
      exact (Event.fire_scanPend { s with inputs := rest } hne).symm.trans h
  | reset hr ht =>
    subst ht
    cases src <;> cases h
  | statement j hr hj hn ht => exact s.pending_passMove src ▸ pending_of_jobStep (ht ▸ h)
  | service src' l n hc ht => exact absurd hc hbusy
  | sleep hc ht => exact absurd hc hbusy
  | nothing hr hb l n ht => exact (State.pending_congr src).trans (ht ▸ h)
  | transaction i l n hc hpl ht => exact absurd hc hbusy

/-- Settles O29: the two events in RUN, that they wait outside it, and who could set their flags there. -/
theorem tickSourcesOnlyInRun : Obligations.TickSourcesOnlyInRun := by
  refine ⟨fun s rest hl hp => ?_, fun s rest hp hi => ?_, fun s t hp hs => ⟨?_, ?_⟩⟩
  · constructor <;> intro hi <;> rw [step, plan, if_pos hl, State.nextEvent_atOnce hi (decide_eq_true hp)] <;> rfl
  · rcases hi with hi | hi <;> exact State.nextEvent_not_enabled hi (decide_eq_false hp)
  · exact pending_of_step (src := .tick) nofun hp hs
  · exact pending_of_step (src := .scan) nofun hp hs

/-! ## Power-up and boot -/

/-- Settles O54: at power-up every register is 0 or as drawn, and the block waits for the reset step. -/
theorem invariantAtPowerUp : Obligations.InvariantAtPowerUp := by
  have hpow : ∀ (c : Config) (srDraw qDraw : Byte) (pinDraw : Bool) (l : List Input), c.legal = true →
      Inv ((State.powerUp c srDraw qDraw pinDraw).withInputs l) := by
    intro c srDraw qDraw pinDraw l hl
    obtain ⟨-, -, -, -, ⟨hdeb, -⟩, -⟩ := Config.legal_iff.1 hl
    have hnone : ¬ HasLatched ((State.powerUp c srDraw qDraw pinDraw).withInputs l) := fun ⟨_, hv⟩ => by cases hv
    exact {
      legal := hl
      count := Nat.zero_le _
      tsample := Nat.zero_le _
      tbase := Nat.zero_le _
      adcRes := Nat.zero_le _
      tdeb := hdeb
      latch := rfl
      seq := ⟨⟨rfl, rfl, rfl⟩, ⟨rfl, rfl⟩, fun h => absurd h hnone⟩
      phase := ⟨rfl, hnone, rfl, rfl, rfl⟩
      host := nofun }
  exact ⟨hpow, hpow Config.default 0x00#8 0x00#8 true [] (by decide)⟩

/-- The filtered samples of `CAL_JOB` leave the serial stage and the sensor's level (R408, R511). -/
theorem foldl_calSampled_drawn (rss : List (List Reading)) (s : State) :
    (rss.foldl calSampled s).sr = s.sr ∧ (rss.foldl calSampled s).motionN = s.motionN := by
  induction rss generalizing s with
  | nil => exact ⟨rfl, rfl⟩
  | cons rs rss ih => exact ih (calSampled s rs)

/-- L5's quotient is the seed of the baseline (R511). -/
theorem calibrated_mean {rss : List (List Reading)} {s : State} (hl : s.cfg.legal = true)
    (hn : rss.length = s.cfg.calSamples) (hr : ∀ rs ∈ rss, ∀ r ∈ rs, r.toNat ≤ maxReading s.cfg) :
    (BitVec.ofNat 16 ((calibrated rss s).cacc.toNat / s.cfg.calSamples)).toNat = seeded rss := by
  obtain ⟨-, -, ⟨-, hmax⟩, -⟩ := Config.legal_iff.1 hl
  have hfiltered : ∀ x ∈ rss.map filtered, x ≤ maxReading s.cfg := by
    simpa using fun rs hx => filtered_le_maxReading (hr rs hx)
  have hsum := sum_lt_of_le_maxReading hl (by rwa [List.length_map, hn]) hfiltered
  rw [calibrated_cacc hsum, ← hn, BitVec.toNat_ofNat, Nat.mod_eq_of_lt ((Nat.div_le_self _ _).trans_lt hsum), seeded]

/-- With no event before rest the reset step is the first step from power-up (R711). -/
theorem step_reset {s : State} (hl : s.cfg.legal = true) (hp : s.phase = .reset) (hi : Patient s.inputs) :
    step s = .next (resetStep s) := by
  have hrest : s.atRest = false := by simp [State.atRest, hp]
  rw [step, plan, if_pos hl, State.nextEvent_of_patient hi hrest, State.passMove_of_patient hi]
  simp only [sequencerMove, hp]

/-- Settles O53: the reset step, and `CAL_JOB` from L1 to its end. -/
theorem bootReachesRun : Obligations.BootReachesRun := by
  intro c srDraw qDraw pinDraw rss rest hl hn hr hrest
  let s := (State.powerUp c srDraw qDraw pinDraw).withInputs (conversions rss.flatten ++ rest)
  have hreset : step s = .next (resetStep s) := step_reset hl rfl (patient_conversions hrest _)
  have f := calibrated_frame rss (resetStep s)
  obtain ⟨hsr, hmotionN⟩ := foldl_calSampled_drawn rss { resetStep s with cacc := 0#16, j := 0 }
  have hrun := cal_leads_run (s := resetStep s) hrest ⟨hl, nofun, rfl⟩ ⟨rfl, rfl⟩ hn hr rfl
  refine ⟨_, Leads.head hreset hrun, rfl, rfl, rfl, f.cfg, f.led, f.mmask, f.count, rfl, rfl, f.motionPend,
    f.tickPend, f.scanPend, ?_, f.q, hsr, hmotionN, f.obs⟩
  rw [f.cfg]
  exact calibrated_mean (s := resetStep s) hl hn fun rs hx => (hr rs hx).2

/-! ## A torn read -/

/-- `p` holds of the first states of the run from `s`, `n` steps of it. -/
def holdsAlong (p : State → Bool) : Nat → State → Bool
  | 0, s => p s
  | n + 1, s =>
    p s && match step s with
      | .next t => holdsAlong p n t
      | .fault _ => true
      | .refused _ => true

theorem holdsAlong_run {p : State → Bool} {m n : Nat} {s x : State} (h : holdsAlong p n s = true) (hm : m ≤ n)
    (hx : core.run m s = .next x) : p x = true := by
  induction n generalizing m s with
  | zero =>
    obtain rfl := Nat.le_zero.1 hm
    cases hx
    exact h
  | succ n ih =>
    obtain ⟨hs, hrest⟩ := Bool.and_eq_true_iff.1 h
    cases m with
    | zero => cases hx; exact hs
    | succ m =>
      simp only [Host.Core.run] at hx
      split at hx
      · next t ht =>
        have ht : step s = .next t := ht
        rw [ht] at hrest
        exact ih hrest (Nat.le_of_succ_le_succ hm) hx
      · cases hx
      · cases hx

/-- The host has offered `RD.TBASEL` while `TBASE` is 0x00FF. A scan comes when the read is over, with 0x0100 as its one
reading, and `RD.TBASEH` is offered when the scan service is over. -/
def tornStart : State :=
  { State.reset with
    cfg := { Config.default with scanSamples := 1, sampleShift := 0, baselineShift := 0 },
    phase := .run, tbase := 0x00FF#16, offered := some (encode .rdTbasel),
    inputs := [lazily .scan, lazily (.adcDone 0x100#10), lazily (.offer (encode .rdTbaseh))] }

/-- Between the two reads, the scan pending. -/
def tornPending : State :=
  { answered (.response 0xFF) tornStart with
    scanPend := true, inputs := [lazily (.adcDone 0x100#10), lazily (.offer (encode .rdTbaseh))] }

/-- The scan service has moved `TBASE` to its sample, and `RD.TBASEH` is offered. -/
def tornMoved : State :=
  { released (sampled [0x100#10] tornPending) with
    tbase := 0x0100#16, scanPend := false, offered := some (encode .rdTbaseh), inputs := [] }

theorem inv_tornStart : Inv tornStart where
  legal := by decide
  count := by decide
  tsample := by decide
  tbase := by decide
  adcRes := by decide
  tdeb := by decide
  latch := rfl
  seq := ⟨⟨rfl, rfl, rfl⟩, ⟨rfl, rfl⟩, fun ⟨_, hv⟩ => by cases hv⟩
  phase := nofun
  host := nofun

/-- The service that starts between the reads comes to its end and to the second offer in 25 steps. -/
theorem tornPending_leads_tornMoved : Leads (tornPending.startService .scan) tornMoved := ⟨25, rfl⟩

/-- The whole run, from the first read to the second. -/
theorem tornStart_run : core.run 29 tornStart = .next (answered (.response 0x01) tornMoved) := rfl

theorem tornStart_tbase :
    holdsAlong (fun x => decide (x.tbase = 0x00FF#16 ∨ x.tbase = 0x0100#16)) 29 tornStart = true := by
  decide

/-- Settles O25: the run from `tornStart`, evaluated between the states that the statement names. -/
theorem tornReadPossible : Obligations.TornReadPossible := by
  have hlow : step tornStart = .next (answered (.response 0xFF) tornStart) := rfl
  have hpending : Leads (answered (.response 0xFF) tornStart) tornPending := ⟨1, rfl⟩
  have hservice : step tornPending = .next (tornPending.startService .scan) := rfl
  have hhigh : step tornMoved = .next (answered (.response 0x01) tornMoved) := rfl
  exact ⟨tornStart, tornStart, answered (.response 0xFF) tornStart, tornPending, tornPending.startService .scan,
    tornMoved, answered (.response 0x01) tornMoved, 29, inv_tornStart, ⟨by decide, rfl, rfl⟩, rfl,
    Leads.refl _, ⟨_, rfl⟩, hlow, rfl, hpending, rfl, hservice, rfl, rfl, tornPending_leads_tornMoved, ⟨_, rfl⟩, hhigh,
    rfl, rfl, tornStart_run, fun m hm x hx => of_decide_eq_true (holdsAlong_run tornStart_tbase hm hx)⟩

end Sys2Proof.Machine
end
